-- ==== Sys2Proof/Word.lean ====
section
/-!
DEFINITION. The word types of the Latrikon 740 (00_scope.md, "Units and ranges"): bytes on the links, 16-bit
fields and sets, and the two 24-bit counters that wrap, the odometer and the millisecond counter.
-/

namespace Sys2Proof

/-- A byte of a link frame, a wayside telegram or a trip event entry. -/
abbrev Byte := BitVec 8

/-- A 16-bit field, a check code, or a set the layouts of section 10.10 give as 16 bits. -/
abbrev Word16 := BitVec 16

/-- The odometer in decimetres and the millisecond counter: 24 bits, wrapping. -/
abbrev Count24 := BitVec 24

/-- The set of doors 0 to 15 (section 7.2): bit `d` is door `d`. -/
abbrev DoorSet := BitVec 16

end Sys2Proof
end

