-- ==== Sys2Proof/Config.lean ====
section
/-!
DEFINITION. What the manual leaves open and no rule fixes: the free values. The configuration items of the part
(R205) are state, since CONFIGURE writes them; nothing else is fixed by an implementation.
-/

namespace Sys2Proof

/-- The free value number `n`. It has no body that can be seen: a claim that holds, holds whatever it is.
It is read where the manual leaves a choice or a value open: the order of the part's own events that are due
together (log 6), the item that takes freed room in a transmit FIFO (log 28), the early door an
ASSIST_REQUESTED event names (log 20). -/
opaque Config.freeValue : Nat → Nat

/-- The TAG a NOTICE frame carries, which no rule states (log 20). -/
opaque Config.noticeTag : Byte

/-- A VEHICLE REPORT byte whose items section 10.10 lists without their bits: its page, its place after the page byte, the
codes of its items in the order listed, and last the items for which the layout names no place (logs 15, 43, 47). -/
opaque Config.reportByte : Nat → Nat → List Nat → Byte

end Sys2Proof
end

