-- ==== Sys2Proof/Syntax.lean ====
section
/-!
DEFINITION. The commands of the block: one constructor of `Instr` for each row of spec/opcode_table.json, and
the types of their operands. A command is an event at one moment: a command frame taken from its FIFO, a frame or
telegram received, a line that changes, a timer that expires, a count or a distance that is reached.
-/

namespace Sys2Proof

/-- A cab end of the vehicle (00_scope.md, terms). -/
inductive End where
  | a
  | b
deriving DecidableEq, Repr

/-- The four link ports (00_scope.md): cab links A and B, vehicle link, consist link. -/
inductive Port where
  | ca
  | cb
  | vl
  | kl
deriving DecidableEq, Repr

/-- The four axle channels (section 2.1). -/
inductive Axle where
  | t1
  | t2
  | m1
  | m2
deriving DecidableEq, Repr

/-- The five sound channels (section 8.1). -/
inductive Speaker where
  | bell
  | horn
  | chime
  | buzzerA
  | buzzerB
deriving DecidableEq, Repr

/-- A leg of a junction, as seen facing forward from the active cab (section 5.1). -/
inductive Leg where
  | left
  | straight
  | right
deriving DecidableEq, Repr

/-- The position of a junction's points in a point report (section 5.4). -/
inductive Position where
  | left
  | straight
  | right
  | moving
deriving DecidableEq, Repr

/-- The lock of a junction in a point report (section 5.4); LOCKED_FOR names a vehicle. -/
inductive Lock where
  | free
  | lockedFor (vehicle : Nat)
  | occupied
deriving DecidableEq, Repr

/-- One value for each axle channel. -/
structure PerAxle (α : Type) where
  t1 : α
  t2 : α
  m1 : α
  m2 : α
deriving DecidableEq, Repr

/-- The commands and events of the block, one constructor for each row of spec/opcode_table.json. -/
inductive Instr where
  -- cab commands, taken from the command FIFO of a port (R202)
  | claim (p : Port)
  | release (p : Port)
  | emergencyReset (p : Port)
  | doorRelease (p : Port)
  | doorClose (p : Port)
  | assistAck (p : Port)
  | selectLeg (p : Port)
  | cancelLeg (p : Port)
  | permit (p : Port)
  | enquirePoint (p : Port)
  -- vehicle link commands, taken from the command FIFO of a port (R202)
  | planAppend (p : Port)
  | planClear (p : Port)
  | readEvent (p : Port)
  | applyEmergency (p : Port)
  | releaseCommandSource (p : Port)
  | sendTelegram (p : Port)
  | configureVehicleNumber (p : Port)
  | configureRank (p : Port)
  | configureLength (p : Port)
  | configurePulseLength (p : Port)
  | configureInputMapLine (p : Port)
  | configurePatternHead (p : Port)
  | configurePatternSteps (p : Port)
  | configureVigilanceAction (p : Port)
  | configureSourceLevel (p : Port)
  | configureBandMonitor (p : Port)
  | stable (p : Port)
  | wake (p : Port)
  | soundTest (p : Port)
  | clearFlags (p : Port)
  | setNoticeMask (p : Port)
  | forceFlags (p : Port)
  | unknownKind (p : Port)
  -- frames on the links (chapter 10)
  | commandArrival (p : Port) (kind tag : Byte) (payload : List Byte)
  | cabState (e : End) (lever : Byte) (deadman ack bell horn : Bool)
  | vehicleState (ceiling : Word16) (priorityClass quiet derate : Byte)
  | consistPage (coupler : End) (tag : Byte) (payload : List Byte)
  | badFrame (p : Port)
  | frameDiscarded (p : Port) (malformed : Bool)
  | silenceTimerExpires (p : Port)
  | transmitEntryLeaves (p : Port)
  | cabDisplayDue (e : End)
  | vehicleReportDue
  | consistFrameDue
  -- input lines
  | keyOff (e : End)
  | keyOn (e : End)
  | doorLoopOpens
  | doorLoopCloses
  | passengerLoopOpens
  | passengerLoopCloses
  | axlePulse (c : Axle)
  | powerOnReset
  | lineReset
  -- the demand period, and what its counts may reach
  | periodUpdate (closed : PerAxle Bool)
  | zeroRunFault (c : Axle)
  | openRunFault (c : Axle)
  | recoveryRunComplete (c : Axle)
  | standstillBegins
  | calmRunComplete
  | adhesionBackToGrip
  | slipHistoryEntryExpires
  | dwellRunsDown
  -- timers
  | parkTimerExpires
  | intentTimerExpires
  | settleTimerExpires
  | timeTimerExpires
  | graceTimerExpires
  | warningTimerExpires
  | reportTimerExpires (junction : Nat)
  | reRequestTimerExpires (junction : Nat)
  | holdTimerExpires
  -- distance
  | pointReachedByDistance (junction : Nat)
  | overflowReachedByDistance
  | junctionPassed (junction : Nat)
  | departureCompletes
  -- the wayside channel (chapter 6)
  | requestMarker (junction : Nat)
  | entryMarker (junction : Nat)
  | signalMarker (crossing : Nat) (nearSide : Bool)
  | markerCheckFailed
  | pointReport (junction : Nat) (position : Position) (lock : Lock)
  | priorityAck (crossing vehicle : Nat)
  | telegramDiscarded (failed : Bool)
  | txDone
  -- stop requests (chapter 7)
  | samplingTimerExpires (samples : BitVec 32)
  | stopRequestPress (line : Fin 32)
  | buttonStuck (line : Fin 32)
  | stuckLineFreed (line : Fin 32)
  | autoOpenPulseExpires (door : Fin 8)
  -- coupled running and sound
  | partnerTimerExpires
  | soundStepExpires (k : Speaker)
  | hornOnTimeLimit
  | forcedOffTimerExpires
  -- CONFIGURE with an unknown item type or a length that does not match it
  | configureUnknownItemType (p : Port)
deriving DecidableEq, Repr

end Sys2Proof
end

