-- ==== Sys2Proof/WellFormed.lean ====
section
/-!
DEFINITION. Which commands a partner can really send: the ranges the layouts of section 10.10 and the checks of
R119, R122 and R196 give the operands. `exec` answers for ill-formed operands too, as the rule that checks them says.
-/

namespace Sys2Proof

/-- A junction or crossing number lies in 1 to 4095 (R119, R122). -/
def numberOk (n : Nat) : Bool := 1 ≤ n && n ≤ 4095

/-- A payload of a link frame has 0 to 12 bytes (section 10.10, envelope). -/
def payloadOk (payload : List Byte) : Bool := payload.length ≤ 12

/-- A lock names a 16-bit vehicle number (section 10.10, POINT_REPORT). -/
def Lock.ok : Lock → Bool
  | .lockedFor v => decide (v < 65536)
  | .free => true
  | .occupied => true

/-- The operands of a command are what its frame, telegram or event can carry. -/
def WellFormed : Instr → Bool
  | .commandArrival _ _ _ payload => payloadOk payload
  | .consistPage _ _ payload => payloadOk payload
  | .reportTimerExpires j => numberOk j
  | .reRequestTimerExpires j => numberOk j
  | .pointReachedByDistance j => numberOk j
  | .junctionPassed j => numberOk j
  | .requestMarker j => numberOk j
  | .entryMarker j => numberOk j
  | .signalMarker k _ => numberOk k
  | .pointReport j _ lock => numberOk j && lock.ok
  | .priorityAck k v => numberOk k && decide (v < 65536)
  | .claim _ | .release _ | .emergencyReset _ | .doorRelease _ | .doorClose _ | .assistAck _
  | .selectLeg _ | .cancelLeg _ | .permit _ | .enquirePoint _ | .planAppend _ | .planClear _
  | .readEvent _ | .applyEmergency _ | .releaseCommandSource _ | .sendTelegram _
  | .configureVehicleNumber _ | .configureRank _ | .configureLength _ | .configurePulseLength _
  | .configureInputMapLine _ | .configurePatternHead _ | .configurePatternSteps _
  | .configureVigilanceAction _ | .configureSourceLevel _ | .configureBandMonitor _
  | .stable _ | .wake _ | .soundTest _ | .clearFlags _ | .setNoticeMask _ | .forceFlags _
  | .unknownKind _ | .configureUnknownItemType _ => true
  | .cabState _ _ _ _ _ _ | .vehicleState _ _ _ _ | .badFrame _ | .frameDiscarded _ _
  | .silenceTimerExpires _ | .transmitEntryLeaves _ | .cabDisplayDue _ | .vehicleReportDue
  | .consistFrameDue => true
  | .keyOff _ | .keyOn _ | .doorLoopOpens | .doorLoopCloses | .passengerLoopOpens
  | .passengerLoopCloses | .axlePulse _ | .powerOnReset | .lineReset => true
  | .periodUpdate _ | .zeroRunFault _ | .openRunFault _ | .recoveryRunComplete _
  | .standstillBegins | .calmRunComplete | .adhesionBackToGrip | .slipHistoryEntryExpires
  | .dwellRunsDown => true
  | .parkTimerExpires | .intentTimerExpires | .settleTimerExpires | .timeTimerExpires
  | .graceTimerExpires | .warningTimerExpires | .holdTimerExpires => true
  | .overflowReachedByDistance | .departureCompletes | .markerCheckFailed
  | .telegramDiscarded _ | .txDone => true
  | .samplingTimerExpires _ | .stopRequestPress _ | .buttonStuck _ | .stuckLineFreed _
  | .autoOpenPulseExpires _ | .partnerTimerExpires | .soundStepExpires _ | .hornOnTimeLimit
  | .forcedOffTimerExpires => true

end Sys2Proof
end

