-- ==== Sys2Proof/Decode.lean ====
section
/-!
DEFINITION. From received bytes to commands (R196, R197, R119, R122), from frames to bytes, and the two functions the
host asks for. The opcode table gives no row any bits, so `decodeTableWord` answers none for every word (log 24).
The functions below are the front end of the ports, of the loop marker reader and of the radio: they say which
command a run of received characters, a marker or a telegram stands for (log 25).
-/

namespace Sys2Proof

/-- The command a word of the opcode table spells: none, since the table gives its rows no bits (log 24). -/
def decodeTableWord (_nbits _w : Nat) : Option Instr := none

/-- Two bytes as one 16-bit value, high byte first (section 10.10). -/
def word16 (hi lo : Byte) : Word16 := hi ++ lo

/-- The high byte of a 16-bit value. -/
def hiByte (w : Word16) : Byte := w.extractLsb' 8 8

/-- The low byte of a 16-bit value. -/
def loByte (w : Word16) : Byte := w.extractLsb' 0 8

/-- One step of the check of R197: rotate left by 5 within 16 bits, then add the byte modulo 65536. -/
def checkStep (c : Word16) (b : Byte) : Word16 := c.rotateLeft 5 + b.setWidth 16

/-- The check of R197 over the covered bytes, from a seed. -/
def checkCode (seed : Word16) (bytes : List Byte) : Word16 := bytes.foldl checkStep seed

/-- The seed of link frames and demand frames (R197). -/
def linkSeed : Word16 := 0xA5C3

/-- The seed of wayside markers and telegrams (R197, section 6.1). -/
def waysideSeed : Word16 := 0x3C5A

/-- The covered bytes followed by their check, high byte first. -/
def withCheck (seed : Word16) (covered : List Byte) : List Byte :=
  covered ++ [hiByte (checkCode seed covered), loByte (checkCode seed covered)]

/-- A link frame on the wire: LEN, KIND, TAG, payload, check (section 10.10, envelope). -/
def linkFrame (kind tag : Byte) (payload : List Byte) : List Byte :=
  withCheck linkSeed (BitVec.ofNat 8 (payload.length + 2) :: kind :: tag :: payload)

/-- A wayside marker or telegram: LEN, KIND, number, further fields, check (section 10.10). -/
def waysideFrame (kind : Byte) (number : Nat) (fields : List Byte) : List Byte :=
  withCheck waysideSeed
    (BitVec.ofNat 8 (fields.length + 3) :: kind :: hiByte (BitVec.ofNat 16 number) ::
      loByte (BitVec.ofNat 16 number) :: fields)

/-- Whether the last two of `bytes` are the check of all before them. -/
def checkAgrees (seed : Word16) (bytes : List Byte) : Bool :=
  decide (2 ≤ bytes.length) && decide (bytes = withCheck seed (bytes.take (bytes.length - 2)))

/-- The KINDs the part itself sends (section 10.10): displays, reports, NOTICE, answers, demand. -/
def sentKind (kind : Byte) : Bool :=
  kind == 0x40 || kind == 0x41 || kind == 0x42 || kind == 0x50 || kind == 0x51 || kind == 0x60

/-- A CAB STATE payload: lever, then deadman, acknowledge, bell and horn in bits 0 to 3 (section 10.10); a payload of another
length is malformed (R196). -/
def cabStateFrame (p : Port) (e : End) (payload : List Byte) : Instr :=
  match payload with
  | [lever, c] => .cabState e lever (c.getLsbD 0) (c.getLsbD 1) (c.getLsbD 2) (c.getLsbD 3)
  | _ => .frameDiscarded p true

/-- A VEHICLE STATE payload: line ceiling, priority class, quiet mode, derate request (section 10.10); a payload of another
length is malformed (R196). -/
def vehicleStateFrame (p : Port) (payload : List Byte) : Instr :=
  match payload with
  | [c1, c0, cls, quiet, derate] => .vehicleState (word16 c1 c0) cls quiet derate
  | _ => .frameDiscarded p true

/-- A valid link frame dispatched by its KIND and its port (R196, table). A cyclic frame whose length does not
match its kind is malformed. -/
def dispatchFrame (p : Port) (coupler : End) (kind tag : Byte) (payload : List Byte) : Instr :=
  if kind == 0x01 then
    match p with
    | .ca => cabStateFrame p .a payload
    | .cb => cabStateFrame p .b payload
    | .vl => .frameDiscarded p false
    | .kl => .frameDiscarded p false
  else if kind == 0x02 then
    match p with
    | .vl => vehicleStateFrame p payload
    | _ => .frameDiscarded p false
  else if kind == 0x03 then
    match p with
    | .kl => .consistPage coupler tag payload
    | _ => .frameDiscarded p false
  else if sentKind kind then .frameDiscarded p false
  else .commandArrival p kind tag payload

/-- The command a run of characters closed by an idle gap stands for (R196). `stopBitMissing`: a character arrived
with a missing stop bit; `coupler`: the end at whose coupler a consist frame arrives (R184). -/
def receiveFrame (p : Port) (coupler : End) (stopBitMissing : Bool) (bytes : List Byte) : Instr :=
  match bytes with
  | len :: kind :: tag :: rest =>
    if stopBitMissing || decide (len.toNat < 2) || decide (14 < len.toNat)
        || decide (bytes.length ≠ len.toNat + 3) || !checkAgrees linkSeed bytes then .badFrame p
    else dispatchFrame p coupler kind tag (rest.take (len.toNat - 2))
  | _ => .badFrame p

/-- The length LEN each wayside kind must carry (section 10.10), or none for a kind that does not exist. -/
def waysideLength (kind : Byte) : Option Nat :=
  if kind == 0x21 || kind == 0x22 then some 3
  else if kind == 0x23 then some 4
  else if kind == 0x31 || kind == 0x34 || kind == 0x38 then some 6
  else if kind == 0x32 || kind == 0x33 || kind == 0x39 then some 5
  else if kind == 0x35 then some 11
  else none

/-- Whether a marker or telegram passes the checks R119 and R122 share: check, length for its kind, number. -/
def waysideSound (bytes : List Byte) : Bool :=
  match bytes with
  | len :: kind :: n1 :: n0 :: _ =>
    checkAgrees waysideSeed bytes && decide (bytes.length = len.toNat + 3)
      && decide (waysideLength kind = some len.toNat) && numberOk (word16 n1 n0).toNat
  | _ => false

/-- The command a loop marker stands for (R119, R120). -/
def receiveMarker (bytes : List Byte) : Instr :=
  if waysideSound bytes then
    match bytes with
    | _ :: kind :: n1 :: n0 :: rest =>
      if kind == 0x21 then .requestMarker (word16 n1 n0).toNat
      else if kind == 0x22 then .entryMarker (word16 n1 n0).toNat
      else if kind == 0x23 then .signalMarker (word16 n1 n0).toNat (rest.head? != some 0)
      else .markerCheckFailed
    | _ => .markerCheckFailed
  else .markerCheckFailed

/-- The position code of a POINT_REPORT, bits 0 to 2 (section 10.10). -/
def positionOf (b : Byte) : Option Position :=
  match (b.extractLsb' 0 3).toNat with
  | 1 => some .left
  | 2 => some .straight
  | 3 => some .right
  | 4 => some .moving
  | _ => none

/-- The lock code of a POINT_REPORT, bits 4 and 5 (section 10.10). A locked-for number beside FREE or OCCUPIED, which the layout
gives as 0, does not fail the telegram and is dropped: DESIGN CHOICE (log 46). -/
def lockOf (b : Byte) (vehicle : Nat) : Option Lock :=
  match (b.extractLsb' 4 2).toNat with
  | 0 => some .free
  | 1 => some (.lockedFor vehicle)
  | 2 => some .occupied
  | _ => none

/-- The command a received telegram stands for (R122). Outgoing kinds of other trams are discarded without a flag; an undefined
position, lock or leg code fails the check. DESIGN CHOICE (log 40): a PRIORITY_REQUEST of a class above 3 and a SERVICE telegram
with a number other than 1 do not fail; a marker kind on the radio does. -/
def receiveTelegram (bytes : List Byte) : Instr :=
  if waysideSound bytes then
    match bytes with
    | _ :: kind :: n1 :: n0 :: v1 :: v0 :: rest =>
      if kind == 0x38 then
        match rest with
        | b :: _ =>
          match positionOf b, lockOf b (word16 v1 v0).toNat with
          | some pos, some lock => .pointReport (word16 n1 n0).toNat pos lock
          | _, _ => .telegramDiscarded true
        | [] => .telegramDiscarded true
      else if kind == 0x39 then .priorityAck (word16 n1 n0).toNat (word16 v1 v0).toNat
      else if kind == 0x31 then
        match rest with
        | leg :: _ => .telegramDiscarded (decide (3 < leg.toNat))
        | [] => .telegramDiscarded true
      else if kind == 0x21 || kind == 0x22 || kind == 0x23 then .telegramDiscarded true
      else .telegramDiscarded false
    | _ => .telegramDiscarded true
  else .telegramDiscarded true

end Sys2Proof
end

