-- ==== Sys2Proof/Machine/Blocks.lean ====
section
/-!
DEFINITION. The state of the blocks of the 740 (00_scope.md, "Blocks") as plain data: one structure for each unit, with the
record types its chapter names. `Machine/State.lean` puts them together.
-/

namespace Sys2Proof.Machine

/-! ### One value for each end, port and sound channel -/

/-- One value for each cab end. -/
structure PerEnd (α : Type) where
  a : α
  b : α
deriving DecidableEq, Repr

/-- One value for each link port. -/
structure PerPort (α : Type) where
  ca : α
  cb : α
  vl : α
  kl : α
deriving DecidableEq, Repr

/-- One value for each sound channel. -/
structure PerSpeaker (α : Type) where
  bell : α
  horn : α
  chime : α
  buzzerA : α
  buzzerB : α
deriving DecidableEq, Repr

/-! ### Authority unit (chapter 1) -/

/-- The previous state a claim intent remembers: DARK, or PARKED with its end and running park timer (R13, R10). -/
inductive Previous where
  | dark
  | parked (e : End) (timer : Nat)
deriving DecidableEq, Repr

/-- The claim intent of a CLAIMING record (section 1.1): claiming end, intent timer in ms, exchange number, previous state. -/
structure ClaimIntent where
  claimant : End
  timer    : Nat
  exchange : Byte
  previous : Previous
deriving DecidableEq, Repr

/-- The authority record (section 1.1), each state with the parts present in it. -/
inductive Record where
  | dark
  | claiming (intent : ClaimIntent)
  | active (e : End)
  | parked (e : End) (timer : Nat)
  | remote
  | stabled (threshold : Nat)
deriving DecidableEq, Repr

/-- The lever field of a cab slot: a number from -127 to 127, or the emergency position E (section 1.2). -/
inductive Lever where
  | number (v : Int)
  | emergency
deriving DecidableEq, Repr

/-- A cab slot (section 1.2); true means HELD, PRESSED and FRESH. -/
structure Slot where
  lever   : Lever
  deadman : Bool
  ack     : Bool
  bell    : Bool
  horn    : Bool
  fresh   : Bool
deriving DecidableEq, Repr

/-- The state of the authority unit. `answered` is the last intent answered with its answer, true for GRANT (R14). -/
structure AuthUnit where
  record       : Record
  lastExchange : Byte
  answered     : Option (Byte × Bool)
  slots        : PerEnd Slot
deriving DecidableEq, Repr

/-- The authority state a frame shows (section 10.10, authority byte). -/
inductive AuthState where
  | dark
  | claiming
  | active
  | parked
  | remote
  | stabled
deriving DecidableEq, Repr

/-- The contents of the authority byte: state, active end, parked end. -/
structure ShownAuthority where
  state     : AuthState
  activeEnd : Option End
  parkedEnd : Option End
deriving DecidableEq, Repr

/-! ### Speed unit (chapter 2) -/

/-- The cause of a channel fault (R28, R29). -/
inductive FaultCause where
  | zero
  | open
deriving DecidableEq, Repr

/-- The health of an axle channel: HEALTHY with its zero run and open run, or FAULTED with its cause and recovery run. -/
inductive Health where
  | healthy (zeroRun openRun : Nat)
  | faulted (cause : FaultCause) (recoveryRun : Nat)
deriving DecidableEq, Repr

/-- One axle channel (section 2.1): the count of the period, the last five closed counts oldest first, the channel
speed, the line supervision as last sampled, the health. -/
structure AxleChannel where
  count  : Nat
  window : List Nat
  speed  : Nat
  closed : Bool
  health : Health
deriving DecidableEq, Repr

/-- The edge setting of a band monitor (section 2.6). -/
inductive Edge where
  | off
  | rising
  | falling
  | both
deriving DecidableEq, Repr

/-- A speed band monitor (section 2.6). -/
structure Monitor where
  threshold : Nat
  edge      : Edge
  pattern   : Option (Fin 16)
  above     : Bool
deriving DecidableEq, Repr

/-- The state of the speed unit. -/
structure SpeedUnit where
  axles       : PerAxle AxleChannel
  vRef        : Nat
  reference   : Option Axle
  standstill  : Bool
  lowRun      : Nat
  odometer    : Count24
  remainder   : Nat
  monitors    : Vector Monitor 4
  pulseLength : Nat
deriving DecidableEq, Repr

/-! ### Demand shaper (chapter 3) -/

/-- The adhesion machine's state (section 3.1). -/
inductive Adhesion where
  | grip
  | slip
  | recover
deriving DecidableEq, Repr

/-- The demand frame (R65). -/
structure DemandFrame where
  tag       : Byte
  demand    : Int
  emerg     : Bool
  overspeed : Bool
  sand      : Bool
  divisor   : Nat
  authority : ShownAuthority
deriving DecidableEq, Repr

/-- The state of the demand shaper. `dwellSign` is true for positive; `rd` is the Rd of the last computation; `released` holds from
a release of the latch to the next computation, which starts from -100 (R59, R74; log 38). -/
structure Shaper where
  prev       : Int
  dwell      : Nat
  dwellSign  : Option Bool
  adhesion   : Adhesion
  cap        : Nat
  calm       : Nat
  history    : List Nat
  overspeed  : Bool
  rd         : Int
  released   : Bool
  frames     : Byte
  demandLine : Option DemandFrame
deriving DecidableEq, Repr

/-! ### Emergency unit (chapter 4) -/

/-- The ten emergency sources (R69), in the order of their bits (section 10.10). -/
inductive EmergencySource where
  | lever
  | vigilance
  | link
  | key
  | loop
  | point
  | speed
  | consist
  | partner
  | command
deriving DecidableEq, Repr

/-- The derate demands held on the ladder, each absent or a divisor (section 4.6). -/
structure Demands where
  sensor    : Option Nat
  reference : Option Nat
  adhesion  : Option Nat
  vehicle   : Option Nat
  partner   : Option Nat
deriving DecidableEq, Repr

/-- The vigilance monitor's state with the timer that runs in it, in ms (section 4.7). -/
inductive Vigil where
  | quiet (elapsed : Nat)
  | warningHold (grace : Nat)
  | warningTime (left : Nat)
  | penalty
deriving DecidableEq, Repr

/-- The vigilance action (R89). -/
inductive VigilanceAction where
  | warnOnly
  | brake
deriving DecidableEq, Repr

/-- The state of the emergency unit: latch, ladder, vigilance monitor. -/
structure EmergencyUnit where
  recorded    : Word16
  first       : Option EmergencySource
  commandHold : Bool
  armed       : Bool
  divisor     : Nat
  demands     : Demands
  settle      : Option Nat
  vigil       : Vigil
  running     : Bool
  warnedAt    : Option End
  action      : VigilanceAction
  locked      : Bool
deriving DecidableEq, Repr

/-! ### Junction unit (chapter 5) -/

/-- An entry of the route plan (section 5.1). -/
structure PlanEntry where
  junction : Nat
  leg      : Leg
  ceiling  : Nat
  distance : Nat
  length   : Nat
deriving DecidableEq, Repr

/-- The state of a junction record (section 5.2). -/
inductive RecordState where
  | requested
  | set
  | locked
  | mismatch
  | noReport
  | unplanned
  | onPoint
deriving DecidableEq, Repr

/-- A point report as held: position, lock and age in ms. -/
structure Report where
  position : Position
  lock     : Lock
  age      : Nat
deriving DecidableEq, Repr

/-- A record of the junction table (section 5.2). -/
structure JunctionRecord where
  junction    : Nat
  leg         : Option Leg
  ceiling     : Nat
  distance    : Nat
  length      : Nat
  marker      : Count24
  entry       : Option Count24
  state       : RecordState
  lastReport  : Option Report
  permit      : Bool
  sent        : Bool
  reportTimer : Option Nat
  reTimer     : Option Nat
deriving DecidableEq, Repr

/-- What a new junction is given (R96), and what the overflow slot holds (R93). -/
structure JunctionContents where
  junction : Nat
  leg      : Option Leg
  ceiling  : Nat
  distance : Nat
  length   : Nat
  marker   : Count24
  permit   : Bool
deriving DecidableEq, Repr

/-- The held enquiry slot (section 5.9), with its hold timer in ms. -/
inductive Enquiry where
  | free
  | waiting (junction : Nat) (timer : Nat)
  | ready (junction : Nat) (report : Report) (timer : Nat)
deriving DecidableEq, Repr

/-- The state of the junction unit. `pointWarn` is the end on whose buzzer a POINT_WARN request stands. -/
structure JunctionUnit where
  plan          : List PlanEntry
  records       : List JunctionRecord
  overflow      : Option JunctionContents
  tableFull     : Bool
  pendingLeg    : Option Leg
  pendingPermit : Bool
  enquiry       : Enquiry
  pointWarn     : Option End
deriving DecidableEq, Repr

/-! ### Wayside transceiver (chapter 6) -/

/-- The four source queues. -/
inductive Source where
  | jr
  | jq
  | sp
  | vx
deriving DecidableEq, Repr

/-- The positions of the level-0 ring (R127). -/
inductive Ring0 where
  | jr
  | jq
  | sp
  | slot
deriving DecidableEq, Repr

/-- An entry of JR (section 6.3). -/
inductive JrEntry where
  | request (junction : Nat) (leg : Leg)
  | cancel (junction : Nat)
deriving DecidableEq, Repr

/-- A priority request: crossing and class (R121). -/
structure Priority where
  crossing : Nat
  cls      : Nat
deriving DecidableEq, Repr

/-- A telegram as built at its grant (R121, section 6.2). -/
inductive Telegram where
  | pointRequest (junction vehicle : Nat) (leg : Leg)
  | pointCancel (junction vehicle : Nat)
  | statusQuery (junction vehicle : Nat)
  | priorityRequest (crossing vehicle cls : Nat)
  | service (vehicle : Nat) (bytes : List Byte)
deriving DecidableEq, Repr

/-- The transmitter while SENDING (section 6.5). -/
structure Sending where
  telegram : Telegram
  source   : Source
  left     : Nat
deriving DecidableEq, Repr

/-- The levels of JR, JQ and SP; true is level 1 (R130). VX is always at level 1. -/
structure Levels where
  jr : Bool
  jq : Bool
  sp : Bool
deriving DecidableEq, Repr

/-- The state of the wayside transceiver. `acked` is the last acknowledged crossing with its age in ms. -/
structure Wayside where
  jr      : List JrEntry
  jq      : List Nat
  sp      : List Priority
  vx      : List (List Byte)
  ptr0    : Ring0
  ptr1    : Source
  parked  : Source
  levels  : Levels
  sending : Option Sending
  held    : Option Priority
  acked   : Option (Nat × Nat)
deriving DecidableEq, Repr

/-! ### Stop request unit (chapter 7) -/

/-- The class of a request line (section 7.1). -/
inductive LineClass where
  | off
  | standard
  | assist
deriving DecidableEq, Repr

/-- The class of a press. -/
inductive PressClass where
  | standard
  | assist
deriving DecidableEq, Repr

/-- The state of a request line (section 7.1). -/
inductive LineState where
  | idle
  | counting
  | held
  | stuck
deriving DecidableEq, Repr

/-- A request line: its map (configuration), its debounce state and runs. -/
structure RequestLine where
  cls         : LineClass
  door        : Fin 8
  state       : LineState
  activeRun   : Nat
  inactiveRun : Nat
deriving DecidableEq, Repr

/-- The stop state's phase (section 7.2). -/
inductive Phase where
  | none
  | requested
  | atStop
  | departing
deriving DecidableEq, Repr

/-- The stop state (section 7.2). `side1` and `side2` are the released physical sides. -/
structure StopState where
  phase       : Phase
  doors       : DoorSet
  assist      : Bool
  side1       : Bool
  side2       : Bool
  closeOdo    : Option Count24
  earlyPress  : Bool
  earlyDoors  : DoorSet
  earlyAssist : Bool
deriving DecidableEq, Repr

/-- The lead's stop state as a REMOTE part mirrors it, its sides turned into the own physical sides (R157). -/
structure Mirror where
  phase  : Phase
  doors  : DoorSet
  assist : Bool
  side1  : Bool
  side2  : Bool
deriving DecidableEq, Repr

/-- The state of the stop request unit. -/
structure StopUnit where
  lines   : Vector RequestLine 32
  own     : StopState
  pulses  : Vector (Option Nat) 8
  forward : Vector (Option PressClass) 8
  mirror  : Option Mirror
deriving DecidableEq, Repr

/-! ### Sound unit (chapter 8) -/

/-- What a pattern step asks of its output (section 8.2). -/
inductive StepOutput where
  | off
  | on
  | tone (n : Nat)
deriving DecidableEq, Repr

/-- A step place: output and duration in units of 10 ms. -/
structure PatternStep where
  output : StepOutput
  units  : Nat
deriving DecidableEq, Repr

/-- A pattern's repeat (section 8.2). -/
inductive Repeat where
  | held
  | times (n : Nat)
deriving DecidableEq, Repr

/-- An entry of the pattern table. -/
structure Pattern where
  priority : Nat
  rep      : Repeat
  count    : Nat
  steps    : Vector PatternStep 8
deriving DecidableEq, Repr

/-- The sources of sound requests (R167). -/
inductive SoundSource where
  | manualBell
  | manualHorn
  | stopChime
  | assistChime
  | departChime
  | vigilanceWarn
  | pointWarn
  | emergency
  | speedBand
  | mirror
  | test
deriving DecidableEq, Repr

/-- An entry of a sound channel, playing or waiting (section 8.1). `step` counts from 1; `age` is the entry's place
in the order of joining, smaller is older; `held` says whether the request stands until released. -/
structure SoundEntry where
  source  : SoundSource
  pattern : Fin 16
  step    : Nat
  repeats : Nat
  age     : Nat
  held    : Bool
deriving DecidableEq, Repr

/-- A sound channel: the playing entry, the ms left in its step, the waiting list in its order (R170). -/
structure SoundChannel where
  playing : Option SoundEntry
  left    : Nat
  waiting : List SoundEntry
deriving DecidableEq, Repr

/-- The state of the sound unit. `bellItem` is the previous manual bell item taken (R179). -/
structure SoundUnit where
  patterns  : Vector Pattern 16
  channels  : PerSpeaker SoundChannel
  hornOn    : Nat
  forcedOff : Option Nat
  bellItem  : Option Bool
  joins     : Nat
deriving DecidableEq, Repr

/-- Where a SOUND TEST request stands after it is placed (R180). -/
inductive Placement where
  | playing
  | waiting
  | dropped
deriving DecidableEq, Repr

/-! ### Consist unit (chapter 9) -/

/-- The consist states (section 9.1). -/
inductive ConsistState where
  | single
  | joining
  | coupled
  | conflict
  | mismatch
  | severed
deriving DecidableEq, Repr

/-- The roles in a coupled consist (R187). -/
inductive Role where
  | lead
  | trail
  | neutral
deriving DecidableEq, Repr

/-- The stop block of a consist frame (R183). -/
structure StopBlock where
  phase  : Phase
  doors  : DoorSet
  assist : Bool
  left   : Bool
  right  : Bool
deriving DecidableEq, Repr

/-- The contents of a consist frame (R183). The INTENT's rank is `rank`; `answer` is true for GRANT. -/
structure ConsistFrame where
  vehicle    : Nat
  rank       : Nat
  length     : Nat
  coupledEnd : Option End
  authority  : ShownAuthority
  rk         : Int
  divisor    : Nat
  ceiling    : Nat
  holding    : Bool
  ownSources : Word16
  standstill : Bool
  stopBlock  : Option StopBlock
  presses    : Option (Vector (Option PressClass) 8)
  manualBell : Bool
  intent     : Option Byte
  answer     : Option (Byte × Bool)
deriving DecidableEq, Repr

/-- The state of the consist unit; `identity` is the partner's vehicle number and rank. -/
structure ConsistUnit where
  state      : ConsistState
  role       : Option Role
  identity   : Option (Nat × Nat)
  count      : Nat
  latest     : Option ConsistFrame
  timer      : Option Nat
  coupledEnd : Option End
  facingEnd  : Option End
deriving DecidableEq, Repr

/-! ### Link ports (chapter 10) -/

/-- A queued command: KIND, TAG and payload. -/
structure Command where
  kind    : Byte
  tag     : Byte
  payload : List Byte
deriving DecidableEq, Repr

/-- The refusal reasons (R203). -/
inductive Reason where
  | unknownKind
  | notPermitted
  | badField
  | notActive
  | noKey
  | link
  | moving
  | heldByOther
  | remote
  | busy
  | lostTie
  | noPartner
  | consistFault
  | stabled
  | notDark
  | keyOn
  | full
  | empty
  | locked
  | onPoint
  | nothing
  | held
  | retry
  | sourceActive
  | lever
  | assistPending
  | lockedSetting
deriving DecidableEq, Repr

/-- Who refused a command: its owner, or the port (R203). -/
inductive Origin where
  | owner
  | port
deriving DecidableEq, Repr

/-- What wakes a stabled part (R21). -/
inductive WakeSource where
  | key (e : End)
  | command
  | consistFrame
  | doorLoop
  | passengerLoop
  | press
deriving DecidableEq, Repr

/-- Why a priority request was dropped (section 6.6). -/
inductive DropCause where
  | full
  | replaced
  | handover
deriving DecidableEq, Repr

/-- A trip event's kind with its detail (section 10.10, trip event entry). -/
inductive TripEvent where
  | authorityChanged (shown : ShownAuthority) (claimant : Option End)
  | woken (source : WakeSource)
  | linkChanged (p : Port) (up : Bool)
  | consistChanged (state : ConsistState) (role : Option Role) (partner : Nat)
  | channelFaulted (c : Axle) (cause : FaultCause)
  | channelHealthy (c : Axle)
  | speedBand (monitor : Fin 4) (rising : Bool) (v : Nat)
  | overspeed (ceiling v : Nat)
  | slip (slide : Bool) (difference : Nat)
  | emergencyApplied (source : EmergencySource)
  | emergencyAdded (source : EmergencySource)
  | emergencyReleased (source : Option EmergencySource)
  | derate (divisor : Nat)
  | vigilancePenalty (action : VigilanceAction)
  | junctionRequested (junction : Nat) (leg : Option Leg)
  | junctionUnplanned (junction : Nat)
  | junctionLocked (junction : Nat)
  | lockLost (junction : Nat) (position : Position) (lock : Lock)
  | junctionMismatch (junction : Nat) (position : Position) (lock : Lock)
  | junctionNoReport (junction : Nat)
  | junctionOverrun (junction : Nat) (stateLeft : Byte)
  | permitUsed (junction : Nat)
  | junctionPassed (junction : Nat) (leg : Option Leg)
  | junctionCancelled (junction : Nat)
  | cancelDropped (junction : Nat)
  | junctionSkipped (junction : Nat)
  | tableFull (junction : Nat)
  | entryUnmatched (junction : Nat)
  | priorityRequested (crossing cls : Nat)
  | priorityHeld (crossing cls : Nat)
  | priorityDropped (crossing : Nat) (cause : DropCause)
  | priorityGranted (crossing : Nat)
  | stopRequested (door : Nat) (cls : PressClass)
  | assistRequested (door : Nat)
  | doorsReleased (side2 : Bool)
  | doorsClosed
  | doorOpenMoving
  | buttonStuck (line : Fin 32) (door : Fin 8)
deriving DecidableEq, Repr

/-- An entry of the trip event queue (section 10.8). -/
structure EventEntry where
  event     : TripEvent
  timestamp : Count24
  odometer  : Count24
  gap       : Bool
deriving DecidableEq, Repr

/-- What a record of the junction table shows in the vehicle report (R117); `r` only outside ON_POINT. -/
structure RecordView where
  junction : Nat
  leg      : Option Leg
  state    : RecordState
  permit   : Bool
  r        : Option Int
deriving DecidableEq, Repr

/-- The health of a channel as the vehicle report shows it: none for HEALTHY, or the cause. -/
abbrev HealthView := Option FaultCause

/-- What a sound channel shows in the vehicle report (R181). -/
structure ChannelView where
  playing : Option (SoundSource × Fin 16 × Nat)
  waiting : List (SoundSource × Fin 16)
  output  : StepOutput
deriving DecidableEq, Repr

/-- A cab display frame (sections 10.3, 10.10; R79, R117, R137, R161, R181, R194), for the cab it goes to. -/
structure CabDisplay where
  authority    : ShownAuthority
  vRef         : Nat
  standstill   : Bool
  interlock    : Bool
  holding      : Bool
  buzzer       : Bool
  first        : Option EmergencySource
  unresolved   : Word16
  divisor      : Nat
  cj           : Nat
  nearest      : Option RecordView
  pendingLeg   : Option Leg
  pendingPermit : Bool
  enquiry      : Enquiry
  phase        : Phase
  assist       : Bool
  earlyPress   : Bool
  left         : Bool
  right        : Bool
  doors        : DoorSet
  heldCrossing : Option Nat
  acked        : Option (Nat × Nat)
  consist      : ConsistState
  role         : Option Role
  partner      : Option (Nat × Nat)
  partnerShows : Option (AuthState × Bool)
deriving DecidableEq, Repr

/-- A vehicle report frame (section 10.10, pages 0 to 10), by its fields (log 15). `flags` is the flag set R209 shows in every
report, for which the layout names no byte (log 43). -/
structure VehicleReport where
  authority   : ShownAuthority
  demand      : Int
  vRef        : Nat
  reference   : Option Axle
  standstill  : Bool
  health      : PerAxle HealthView
  odometer    : Count24
  links       : PerPort Bool
  recorded    : Word16
  first       : Option EmergencySource
  commandHold : Bool
  lineState   : Bool
  armed       : Bool
  divisor     : Nat
  demands     : Demands
  vigil       : Vigil
  action      : VigilanceAction
  locked      : Bool
  lineCeiling : Nat
  planCount   : Nat
  planHead    : Option Nat
  overflow    : Option Nat
  tableFull   : Bool
  records     : List RecordView
  cj          : Nat
  eventCount  : Nat
  queueCounts : Nat × Nat × Nat × Nat
  sending     : Option (Source × Byte)
  levels      : Levels
  priorityClass : Nat
  heldCrossing : Option Nat
  acked       : Option Nat
  stop        : StopState
  doorClosed  : Bool
  enable1     : Bool
  enable2     : Bool
  sign        : Bool
  interlock   : Bool
  autoOpen    : BitVec 8
  stuck       : BitVec 32
  channels    : PerSpeaker ChannelView
  quiet       : Bool
  forcedOff   : Bool
  partnerHolding : Bool
  partnerSources : Word16
  consist     : ConsistState
  role        : Option Role
  joinCount   : Nat
  coupledEnd  : Option End
  facingEnd   : Option End
  partner     : Option (Nat × Nat)
  length      : Nat
  partnerRk   : Int
  partnerDivisor : Nat
  partnerCeiling : Nat
  flags       : Word16
deriving DecidableEq, Repr

/-- An entry of a transmit FIFO (R204): an answer, a NOTICE, or a train of cyclic pages with its TAG. -/
inductive TxEntry where
  | accepted (kind tag : Byte) (data : List Byte)
  | refused (kind tag : Byte) (reason : Reason) (origin : Origin)
  | notice (flags : Word16)
  | display (tag : Byte) (frame : CabDisplay)
  | report (tag : Byte) (frame : VehicleReport)
  | consist (tag : Byte) (frame : ConsistFrame)
deriving DecidableEq, Repr

/-- The state of one link port. `wire` is the character times the head entry of the transmit FIFO still needs. -/
structure PortState where
  link       : Bool
  silence    : Option Nat
  commands   : List Command
  unanswered : Option Command
  heldAnswer : Option TxEntry
  transmit   : List TxEntry
  wire       : Nat
  sequence   : Byte
  due        : Nat
deriving DecidableEq, Repr

/-- What the vehicle link port holds beside its FIFOs (R200, R206 to R211). -/
structure VlUnit where
  lineCeiling   : Nat
  priorityClass : Nat
  quiet         : Bool
  vehicleNumber : Nat
  rank          : Nat
  length        : Nat
  events        : List EventEntry
  flags         : Word16
  mask          : Word16
  owed          : Bool
deriving DecidableEq, Repr

/-! ### Time and lines -/

/-- The clocks: the millisecond counter, the character times inside the millisecond, the period and sampling timers
in ms, and the number of free values taken so far (log 6). -/
structure Clock where
  ms       : Count24
  phase    : Nat
  period   : Nat
  sampling : Nat
  choices  : Nat
deriving DecidableEq, Repr

/-- The input lines as they stand (00_scope.md, connections); true is on, closed or active. -/
structure Pins where
  key             : PerEnd Bool
  doorClosed      : Bool
  passengerClosed : Bool
  axleLines       : PerAxle Bool
  requests        : BitVec 32
deriving DecidableEq, Repr

/-- The output lines (00_scope.md, connections); `brakeLine` true is ENERGISED. -/
structure Outputs where
  brakeLine : Bool
  enable1   : Bool
  enable2   : Bool
  autoOpen  : BitVec 8
  sign      : Bool
  sounds    : PerSpeaker StepOutput
deriving DecidableEq, Repr

end Sys2Proof.Machine
end

