-- ==== Sys2Proof/Machine/ResetValues.lean ====
section
/-!
DEFINITION. The value of every block after a reset (R24, R42, R67, R90, R118, R138, R162, R182, R195, R212). What is
configuration is an argument: LINE_RESET passes what is held, POWER_ON_RESET the defaults.
-/

namespace Sys2Proof.Machine

/-- The empty values of a cab slot, STALE (R3). -/
def Slot.empty : Slot := ⟨.number 0, false, false, false, false, false⟩

/-- The authority unit after a reset (R24). -/
def AuthUnit.reset : AuthUnit := ⟨.dark, 0, none, ⟨Slot.empty, Slot.empty⟩⟩

/-- An axle channel after a reset (R42); its line is sampled afresh at the first expiry (log 7). -/
def AxleChannel.reset : AxleChannel := ⟨0, [0, 0, 0, 0, 0], 0, true, .healthy 0 0⟩

/-- A band monitor after a power-on reset (R42). -/
def Monitor.reset : Monitor := ⟨0, .off, none, false⟩

/-- The pulse length after a power-on reset (R42). -/
def defaultPulseLength : Nat := 2136

/-- The monitors as a reset leaves them: settings kept, all BELOW (R42). -/
def clearMonitors (monitors : Vector Monitor 4) : Vector Monitor 4 :=
  monitors.map fun m => { m with above := false }

/-- The speed unit after a reset, with its configuration (R42). -/
def SpeedUnit.reset (monitors : Vector Monitor 4) (pulseLength : Nat) : SpeedUnit where
  axles := ⟨AxleChannel.reset, AxleChannel.reset, AxleChannel.reset, AxleChannel.reset⟩
  vRef := 0
  reference := some .t1
  standstill := false
  lowRun := 0
  odometer := 0
  remainder := 0
  monitors := clearMonitors monitors
  pulseLength := pulseLength

/-- The demand shaper after a reset (R67; `rd` R183, `demandLine` R65). -/
def Shaper.reset : Shaper where
  prev := 0
  dwell := 5
  dwellSign := none
  adhesion := .grip
  cap := 100
  calm := 0
  history := []
  overspeed := false
  rd := 0
  released := false
  frames := 0
  demandLine := none

/-- No derate demand present (R90). -/
def Demands.absent : Demands := ⟨none, none, none, none, none⟩

/-- The emergency unit after a reset, with its configuration (R90, R89). -/
def EmergencyUnit.reset (action : VigilanceAction) (locked : Bool) : EmergencyUnit where
  recorded := 0
  first := none
  commandHold := false
  armed := false
  divisor := 8
  demands := Demands.absent
  settle := some 3000
  vigil := .quiet 0
  running := false
  warnedAt := none
  action := action
  locked := locked

/-- The junction unit after a reset (R118). -/
def JunctionUnit.reset : JunctionUnit where
  plan := []
  records := []
  overflow := none
  tableFull := false
  pendingLeg := none
  pendingPermit := false
  enquiry := .free
  pointWarn := none

/-- The levels after a power-on reset (R130, R138). -/
def Levels.default : Levels := ⟨false, false, true⟩

/-- The wayside transceiver after a reset, with its configuration (R138). -/
def Wayside.reset (levels : Levels) : Wayside where
  jr := []
  jq := []
  sp := []
  vx := []
  ptr0 := .jr
  ptr1 := .jr
  parked := .jr
  levels := levels
  sending := none
  held := none
  acked := none

/-- A request line after a power-on reset (R139, R162). -/
def RequestLine.reset : RequestLine := ⟨.off, 0, .idle, 0, 0⟩

/-- The stop state NONE with every field dropped (R159, R162). -/
def StopState.none : StopState := ⟨.none, 0, false, false, false, Option.none, false, 0, false⟩

/-- The input map kept, the lines IDLE (R162). -/
def clearLines (lines : Vector RequestLine 32) : Vector RequestLine 32 :=
  lines.map fun l => { l with state := .idle, activeRun := 0, inactiveRun := 0 }

/-- The stop request unit after a reset, with its input map (R162). -/
def StopUnit.reset (lines : Vector RequestLine 32) : StopUnit where
  lines := clearLines lines
  own := StopState.none
  pulses := Vector.replicate 8 none
  forward := Vector.replicate 8 none
  mirror := none

/-- A step place of the defaults beyond the step count: OFF for 10 ms (R164). -/
def PatternStep.blank : PatternStep := ⟨.off, 1⟩

/-- A pattern from its first steps, the further places blank (R164). -/
def Pattern.of (priority : Nat) (rep : Repeat) (steps : List PatternStep) : Pattern where
  priority := priority
  rep := rep
  count := steps.length
  steps := Vector.ofFn fun i => (steps[i.val]?).getD PatternStep.blank

/-- The default pattern table of R164; durations in units of 10 ms. -/
def defaultPatterns : Vector Pattern 16 := #v[
  Pattern.of 3 .held [⟨.on, 15⟩, ⟨.off, 10⟩],
  Pattern.of 6 .held [⟨.on, 100⟩],
  Pattern.of 2 (.times 1) [⟨.tone 5, 30⟩, ⟨.tone 3, 40⟩],
  Pattern.of 5 (.times 2) [⟨.tone 6, 20⟩, ⟨.off, 10⟩, ⟨.tone 6, 20⟩, ⟨.off, 30⟩],
  Pattern.of 4 (.times 1) [⟨.tone 4, 30⟩, ⟨.tone 2, 30⟩, ⟨.tone 4, 30⟩],
  Pattern.of 6 .held [⟨.on, 30⟩, ⟨.off, 20⟩],
  Pattern.of 5 .held [⟨.on, 10⟩, ⟨.off, 10⟩, ⟨.on, 10⟩, ⟨.off, 50⟩],
  Pattern.of 7 (.times 3) [⟨.on, 100⟩, ⟨.off, 50⟩],
  Pattern.of 0 (.times 1) [⟨.off, 10⟩],
  Pattern.of 0 (.times 1) [⟨.off, 10⟩],
  Pattern.of 0 (.times 1) [⟨.off, 10⟩],
  Pattern.of 0 (.times 1) [⟨.off, 10⟩],
  Pattern.of 0 (.times 1) [⟨.off, 10⟩],
  Pattern.of 0 (.times 1) [⟨.off, 10⟩],
  Pattern.of 0 (.times 1) [⟨.off, 10⟩],
  Pattern.of 0 (.times 1) [⟨.off, 10⟩]]

/-- A silent sound channel with an empty waiting list (R182). -/
def SoundChannel.silent : SoundChannel := ⟨none, 0, []⟩

/-- All five channels silent. -/
def silentChannels : PerSpeaker SoundChannel :=
  ⟨SoundChannel.silent, SoundChannel.silent, SoundChannel.silent, SoundChannel.silent, SoundChannel.silent⟩

/-- The sound unit after a reset, with its pattern table (R182). -/
def SoundUnit.reset (patterns : Vector Pattern 16) : SoundUnit where
  patterns := patterns
  channels := silentChannels
  hornOn := 0
  forcedOff := none
  bellItem := none
  joins := 0

/-- The consist unit after a reset (R195). -/
def ConsistUnit.reset : ConsistUnit := ⟨.single, none, none, 0, none, none, none, none⟩

/-- The interval of a port's cyclic train in ms (R199). -/
def dueInterval : Port → Nat
  | .ca => 50
  | .cb => 50
  | .vl => 100
  | .kl => 20

/-- A link port after a reset (R212). -/
def PortState.reset (p : Port) : PortState :=
  ⟨false, none, [], none, none, [], 0, 0, dueInterval p⟩

/-- The four ports after a reset. -/
def resetPorts : PerPort PortState :=
  ⟨PortState.reset .ca, PortState.reset .cb, PortState.reset .vl, PortState.reset .kl⟩

/-- The mask that enables all 15 notice flags (R212). -/
def fullMask : Word16 := 0x7FFF

/-- The vehicle link port's held values, events and flags after a reset, with the identity items (R200, R206, R212). -/
def VlUnit.reset (vehicleNumber rank length : Nat) : VlUnit where
  lineCeiling := 150
  priorityClass := 0
  quiet := false
  vehicleNumber := vehicleNumber
  rank := rank
  length := length
  events := []
  flags := 0
  mask := fullMask
  owed := false

/-- The demand period in ms (R43). -/
def demandPeriod : Nat := 20

/-- The sampling interval in ms (R140). -/
def samplingPeriod : Nat := 10

/-- The clocks after a reset; the number of free values taken goes on (log 8). -/
def Clock.reset (choices : Nat) : Clock := ⟨0, 0, demandPeriod, samplingPeriod, choices⟩

/-- All output lines off, silent and de-energised (R90, R162, R182). -/
def Outputs.off : Outputs :=
  ⟨false, false, false, 0, false, ⟨.off, .off, .off, .off, .off⟩⟩

/-- The input lines the model starts from (log 7): keys off, loops and sensor lines closed, buttons inactive. -/
def Pins.initial : Pins := ⟨⟨false, false⟩, true, true, ⟨true, true, true, true⟩, 0⟩

end Sys2Proof.Machine
end

