-- ==== Sys2Proof/Machine/State.lean ====
section
/-!
DEFINITION. The state of the 740 as plain data, the reasons a step could stop, and the state after a power-on reset.
-/

namespace Sys2Proof.Machine

/-- The whole state: the lines, one structure for each block, the link ports, the clocks, and the queue of commands that
wait, first in first out. -/
structure State where
  pins     : Pins
  outputs  : Outputs
  auth     : AuthUnit
  speed    : SpeedUnit
  shaper   : Shaper
  emerg    : EmergencyUnit
  junction : JunctionUnit
  wayside  : Wayside
  stop     : StopUnit
  sound    : SoundUnit
  consist  : ConsistUnit
  ports    : PerPort PortState
  assembly : Option (Byte × List Byte)
  vl       : VlUnit
  clock    : Clock
  pending  : List Instr
deriving DecidableEq, Repr

/-- The reasons a command could stop the machine with a fault: there are none, since the manual names no condition
that stops the part (log 26). -/
inductive Fault where
deriving DecidableEq, Repr

/-- The reasons a command could be refused a meaning. -/
inductive Refusal where
  /-- A command of the table without a meaning yet; raised only by an arm of `exec` that rejects by name, and no arm
  does. Safe: nothing is claimed of such a command. -/
  | notModelled (mnemonic : String)
deriving DecidableEq, Repr

/-- The part right after a power-on reset, every block as its chapter's reset rule gives it, on the lines of
`Pins.initial` (log 7), with no command waiting. -/
def State.reset : State where
  pins := Pins.initial
  outputs := Outputs.off
  auth := AuthUnit.reset
  speed := SpeedUnit.reset (Vector.replicate 4 Monitor.reset) defaultPulseLength
  shaper := Shaper.reset
  emerg := EmergencyUnit.reset .warnOnly false
  junction := JunctionUnit.reset
  wayside := Wayside.reset Levels.default
  stop := StopUnit.reset (Vector.replicate 32 RequestLine.reset)
  sound := SoundUnit.reset defaultPatterns
  consist := ConsistUnit.reset
  ports := resetPorts
  assembly := none
  vl := VlUnit.reset 1 0 450
  clock := Clock.reset 0
  pending := []

end Sys2Proof.Machine
end

