-- ==== Sys2Proof/Machine/Access.lean ====
section
/-!
DEFINITION. Reading and writing the parts of the state: one update for each field of `State`, and one read and one
write for each record that holds a value for every end, port, axle or sound channel. Every block writes the state through these.
-/

namespace Sys2Proof.Machine

/-- The state with the input lines replaced. -/
def State.withPins (s : State) (x : Pins) : State := { s with pins := x }

/-- The state with the output lines replaced. -/
def State.withOutputs (s : State) (x : Outputs) : State := { s with outputs := x }

/-- The state with the authority unit replaced. -/
def State.withAuth (s : State) (x : AuthUnit) : State := { s with auth := x }

/-- The state with the speed unit replaced. -/
def State.withSpeed (s : State) (x : SpeedUnit) : State := { s with speed := x }

/-- The state with the demand shaper replaced. -/
def State.withShaper (s : State) (x : Shaper) : State := { s with shaper := x }

/-- The state with the emergency unit replaced. -/
def State.withEmerg (s : State) (x : EmergencyUnit) : State := { s with emerg := x }

/-- The state with the junction unit replaced. -/
def State.withJunction (s : State) (x : JunctionUnit) : State := { s with junction := x }

/-- The state with the wayside transceiver replaced. -/
def State.withWayside (s : State) (x : Wayside) : State := { s with wayside := x }

/-- The state with the stop request unit replaced. -/
def State.withStop (s : State) (x : StopUnit) : State := { s with stop := x }

/-- The state with the sound unit replaced. -/
def State.withSound (s : State) (x : SoundUnit) : State := { s with sound := x }

/-- The state with the consist unit replaced. -/
def State.withConsist (s : State) (x : ConsistUnit) : State := { s with consist := x }

/-- The state with the link ports replaced. -/
def State.withPorts (s : State) (x : PerPort PortState) : State := { s with ports := x }

/-- The state with the KL assembly replaced. -/
def State.withAssembly (s : State) (x : Option (Byte × List Byte)) : State := { s with assembly := x }

/-- The state with the vehicle link port's held values replaced. -/
def State.withVl (s : State) (x : VlUnit) : State := { s with vl := x }

/-- The state with the clocks replaced. -/
def State.withClock (s : State) (x : Clock) : State := { s with clock := x }

/-- The state with the queue of waiting commands replaced. -/
def State.withPending (s : State) (x : List Instr) : State := { s with pending := x }

/-- The value of an end. -/
def PerEnd.get {α : Type} (v : PerEnd α) : End → α
  | .a => v.a
  | .b => v.b

/-- Replace the value of an end. -/
def PerEnd.set {α : Type} (v : PerEnd α) (e : End) (x : α) : PerEnd α :=
  match e with
  | .a => { v with a := x }
  | .b => { v with b := x }

/-- The value of a port. -/
def PerPort.get {α : Type} (v : PerPort α) : Port → α
  | .ca => v.ca
  | .cb => v.cb
  | .vl => v.vl
  | .kl => v.kl

/-- Replace the value of a port. -/
def PerPort.set {α : Type} (v : PerPort α) (p : Port) (x : α) : PerPort α :=
  match p with
  | .ca => { v with ca := x }
  | .cb => { v with cb := x }
  | .vl => { v with vl := x }
  | .kl => { v with kl := x }

/-- The value of a sound channel. -/
def PerSpeaker.get {α : Type} (v : PerSpeaker α) : Speaker → α
  | .bell => v.bell
  | .horn => v.horn
  | .chime => v.chime
  | .buzzerA => v.buzzerA
  | .buzzerB => v.buzzerB

/-- Replace the value of a sound channel. -/
def PerSpeaker.set {α : Type} (v : PerSpeaker α) (k : Speaker) (x : α) : PerSpeaker α :=
  match k with
  | .bell => { v with bell := x }
  | .horn => { v with horn := x }
  | .chime => { v with chime := x }
  | .buzzerA => { v with buzzerA := x }
  | .buzzerB => { v with buzzerB := x }

/-- Apply a function to the value of every sound channel. -/
def PerSpeaker.map {α β : Type} (f : α → β) (v : PerSpeaker α) : PerSpeaker β :=
  ⟨f v.bell, f v.horn, f v.chime, f v.buzzerA, f v.buzzerB⟩

/-- The value of an axle channel. -/
def axleGet {α : Type} (v : PerAxle α) : Axle → α
  | .t1 => v.t1
  | .t2 => v.t2
  | .m1 => v.m1
  | .m2 => v.m2

/-- Replace the value of an axle channel. -/
def axleSet {α : Type} (v : PerAxle α) (c : Axle) (x : α) : PerAxle α :=
  match c with
  | .t1 => { v with t1 := x }
  | .t2 => { v with t2 := x }
  | .m1 => { v with m1 := x }
  | .m2 => { v with m2 := x }

/-- The four axle channels in their order (section 2.1). -/
def allAxles : List Axle := [.t1, .t2, .m1, .m2]

/-- The five sound channels in their order (section 8.1). -/
def allSpeakers : List Speaker := [.bell, .horn, .chime, .buzzerA, .buzzerB]

/-- The four ports in their order. -/
def allPorts : List Port := [.ca, .cb, .vl, .kl]

/-- The end other than the one named. -/
def otherEnd : End → End
  | .a => .b
  | .b => .a

/-- The port of a cab end's console. -/
def endPort : End → Port
  | .a => .ca
  | .b => .cb

/-- The cab end whose console a port carries, for the two cab links. -/
def portEnd : Port → Option End
  | .ca => some .a
  | .cb => some .b
  | .vl => none
  | .kl => none

/-- The state of a port. -/
def State.port (s : State) (p : Port) : PortState := s.ports.get p

/-- Replace the state of a port. -/
def State.setPort (s : State) (p : Port) (x : PortState) : State := s.withPorts (s.ports.set p x)

/-- The cab slot of an end. -/
def State.slot (s : State) (e : End) : Slot := s.auth.slots.get e

/-- The active end, while the record is ACTIVE. -/
def State.activeEnd (s : State) : Option End :=
  match s.auth.record with
  | .active e => some e
  | .dark => none
  | .claiming _ => none
  | .parked _ _ => none
  | .remote => none
  | .stabled _ => none

/-- Whether the record is STABLED. -/
def State.isStabled (s : State) : Bool :=
  match s.auth.record with
  | .stabled _ => true
  | .dark => false
  | .claiming _ => false
  | .active _ => false
  | .parked _ _ => false
  | .remote => false

/-- Whether the record is REMOTE. -/
def State.isRemote (s : State) : Bool := decide (s.auth.record = .remote)

/-- Whether the record is DARK. -/
def State.isDark (s : State) : Bool := decide (s.auth.record = .dark)

/-- Whether the consist state is COUPLED. -/
def State.isCoupled (s : State) : Bool := decide (s.consist.state = .coupled)

/-- Whether the record is ACTIVE, PARKED or CLAIMING: the states in which markers are acted on (R94, R120). -/
def State.actsOnMarkers (s : State) : Bool :=
  match s.auth.record with
  | .active _ => true
  | .parked _ _ => true
  | .claiming _ => true
  | .dark => false
  | .remote => false
  | .stabled _ => false

/-- What a frame shows of a record (section 10.10, authority byte). -/
def Record.shown : Record → ShownAuthority
  | .dark => ⟨.dark, none, none⟩
  | .claiming _ => ⟨.claiming, none, none⟩
  | .active e => ⟨.active, some e, none⟩
  | .parked e _ => ⟨.parked, none, some e⟩
  | .remote => ⟨.remote, none, none⟩
  | .stabled _ => ⟨.stabled, none, none⟩

/-- The distance run between two odometer readings, modulo 2^24 (00_scope.md, units). -/
def odoRun (now before : Count24) : Nat := (now - before).toNat

/-- Take the free value at the counter and advance the counter (log 6). -/
def State.freshValue (s : State) : Nat × State :=
  (Config.freeValue s.clock.choices, s.withClock { s.clock with choices := s.clock.choices + 1 })

/-- Choose one of several values with a free value; a single candidate is taken as it is, and no free value is used. -/
def chooseFrom {α : Type} (s : State) (first : α) (more : List α) : α × State :=
  match more with
  | [] => (first, s)
  | _ :: _ =>
    (((first :: more)[s.freshValue.1 % (more.length + 1)]?).getD first, s.freshValue.2)

end Sys2Proof.Machine
end

