-- ==== Sys2Proof/Machine/Flags.lean ====
section
/-!
DEFINITION. The notice flags, the transmit FIFOs' entries and room, NOTICE frames, answers and the trip event queue
(sections 10.5, 10.6, 10.8): what every block uses to report.
-/

namespace Sys2Proof.Machine

/-- The notice flags (section 10.8). -/
inductive NoticeFlag where
  | eventsWaiting
  | eventGap
  | readEmpty
  | checkErr
  | caCheck
  | cbCheck
  | rxLost
  | linkChange
  | derate
  | emergency
  | waysideCheck
  | band (monitor : Fin 4)
deriving DecidableEq, Repr

/-- The bit of a flag in the flag set (section 10.10, common codes). -/
def NoticeFlag.bit : NoticeFlag → Nat
  | .eventsWaiting => 0
  | .eventGap => 1
  | .readEmpty => 2
  | .checkErr => 3
  | .caCheck => 4
  | .cbCheck => 5
  | .rxLost => 6
  | .linkChange => 7
  | .derate => 8
  | .emergency => 9
  | .waysideCheck => 10
  | .band m => 11 + m.val

/-- The flag set with bit `n` set. -/
def bitMask (n : Nat) : Word16 := 1#16 <<< n

/-- Raise the flag of bit `n` (R209): a set flag stays set; a rise of an enabled flag owes a notice. -/
def raiseBit (n : Nat) (s : State) : State :=
  if s.vl.flags.getLsbD n then s
  else s.withVl { s.vl with
    flags := s.vl.flags ||| bitMask n
    owed := s.vl.owed || s.vl.mask.getLsbD n }

/-- Raise a notice flag (R209). -/
def raiseFlag (f : NoticeFlag) (s : State) : State := raiseBit f.bit s

/-- The check flag of a port (R196). -/
def checkFlag : Port → NoticeFlag
  | .ca => .caCheck
  | .cb => .cbCheck
  | .vl => .checkErr
  | .kl => .checkErr

/-- The places of a command FIFO and of a transmit FIFO (R201, R204). -/
def fifoPlaces : Nat := 8

/-- The payload lengths of the frames of a transmit FIFO entry, page bytes among them (section 10.10; log 15). -/
def TxEntry.payloadLengths : TxEntry → List Nat
  | .accepted _ _ data => [1 + data.length]
  | .refused _ _ _ _ => [3]
  | .notice _ => [2]
  | .display _ _ => [11, 10, 10, 5]
  | .report _ _ => [11, 11, 10, 11, 11, 9, 10, 12, 10, 10, 12]
  | .consist _ _ => [12, 11]

/-- The character times an entry takes on the wire, with the idle gap after each frame (section 10.1, R204): LEN, KIND,
TAG, two check bytes and three character times of gap beside each payload. -/
def TxEntry.wireTime (e : TxEntry) : Nat := (e.payloadLengths.map (· + 8)).sum

/-- Whether the transmit FIFO of a port has room for one entry (R204). -/
def txRoom (p : Port) (s : State) : Bool := decide ((s.port p).transmit.length < fifoPlaces)

/-- Queue an entry at the tail of a port's transmit FIFO; an entry that comes to the head starts on the wire. -/
def pushTx (p : Port) (e : TxEntry) (s : State) : State :=
  s.setPort p { s.port p with
    transmit := (s.port p).transmit ++ [e]
    wire := if (s.port p).transmit.isEmpty then e.wireTime else (s.port p).wire }

/-- Queue an answer, or hold it while the transmit FIFO is full (R202). -/
def deliver (p : Port) (e : TxEntry) (s : State) : State :=
  if txRoom p s then pushTx p e s
  else s.setPort p { s.port p with heldAnswer := some e }

/-- Build the owed NOTICE where the transmit FIFO of VL has room, or drop it where no enabled flag is still set (R209). -/
def flushNotice (s : State) : State :=
  if s.vl.owed && txRoom .vl s then
    if s.vl.flags &&& s.vl.mask = 0 then s.withVl { s.vl with owed := false }
    else pushTx .vl (.notice s.vl.flags) (s.withVl { s.vl with owed := false })
  else s

/-- The places of the trip event queue (R207). -/
def eventPlaces : Nat := 32

/-- Append a trip event (R207): its timestamp and odometer are those of the append; a full queue loses its oldest
entry, and the new one carries GAP. -/
def appendEvent (e : TripEvent) (s : State) : State :=
  if s.vl.events.length < eventPlaces then
    raiseFlag .eventsWaiting
      (s.withVl { s.vl with events := s.vl.events ++ [⟨e, s.clock.ms, s.speed.odometer, false⟩] })
  else
    raiseFlag .eventGap (raiseFlag .eventsWaiting
      (s.withVl { s.vl with events := s.vl.events.drop 1 ++ [⟨e, s.clock.ms, s.speed.odometer, true⟩] }))

end Sys2Proof.Machine
end

