-- ==== Sys2Proof/Machine/Sound.lean ====
section
/-!
DEFINITION. The sound unit (chapter 8): placing a request, withdrawing one, running a playing entry through its
steps, restarting entries of a changed pattern, and what each output drives.
-/

namespace Sys2Proof.Machine

/-- The priority of a pattern number in a table. -/
def patternPriority (patterns : Vector Pattern 16) (n : Fin 16) : Nat := patterns[n].priority

/-- The step place `step` (counted from 1) of a pattern. -/
def Pattern.place (p : Pattern) (step : Nat) : PatternStep := (p.steps[step - 1]?).getD PatternStep.blank

/-- The full duration in ms of the step an entry stands at (section 8.2: units of 10 ms). -/
def entryTime (patterns : Vector Pattern 16) (e : SoundEntry) : Nat :=
  10 * ((patterns[e.pattern]).place e.step).units

/-- The order of the waiting list (R170): higher priority first, then the older entry. -/
def entryBefore (patterns : Vector Pattern 16) (x y : SoundEntry) : Bool :=
  decide (patternPriority patterns y.pattern < patternPriority patterns x.pattern) ||
    (decide (patternPriority patterns y.pattern = patternPriority patterns x.pattern) && decide (x.age < y.age))

/-- Insert an entry into a waiting list at its place (R170). -/
def insertEntry (patterns : Vector Pattern 16) (e : SoundEntry) : List SoundEntry → List SoundEntry
  | [] => [e]
  | w :: ws => if entryBefore patterns e w then e :: w :: ws else w :: insertEntry patterns e ws

/-- A waiting list in the order of R170. -/
def sortEntries (patterns : Vector Pattern 16) (ws : List SoundEntry) : List SoundEntry :=
  ws.foldr (insertEntry patterns) []

/-- The entries a waiting list keeps (R172). -/
def waitingPlaces : Nat := 3

/-- Add an entry to a waiting list; of four entries the last, the lowest, is dropped (R172). -/
def joinWaiting (patterns : Vector Pattern 16) (e : SoundEntry) (ws : List SoundEntry) : List SoundEntry :=
  (insertEntry patterns e ws).take waitingPlaces

/-- The channel with `e` as its playing entry, at the start of the step `e` stands at (R169). -/
def SoundChannel.play (patterns : Vector Pattern 16) (e : SoundEntry) (ws : List SoundEntry) : SoundChannel :=
  ⟨some e, entryTime patterns e, ws⟩

/-- The playing entry ends (R175): the first waiting entry plays, resuming where it stood, or the channel is silent. -/
def SoundChannel.next (patterns : Vector Pattern 16) (ch : SoundChannel) : SoundChannel :=
  match ch.waiting with
  | [] => SoundChannel.silent
  | w :: ws => SoundChannel.play patterns w ws

/-- An entry restarted in place with a pattern (R171, first row; R166). -/
def SoundEntry.restart (e : SoundEntry) (pattern : Fin 16) (held : Bool) : SoundEntry :=
  { e with pattern := pattern, step := 1, repeats := 0, held := held }

/-- Whether an entry is of a source. -/
def SoundEntry.isFrom (src : SoundSource) (e : SoundEntry) : Bool := decide (e.source = src)

/-- Whether the channel's playing entry is of a source. -/
def SoundChannel.plays (ch : SoundChannel) (src : SoundSource) : Bool :=
  match ch.playing with
  | some e => e.isFrom src
  | none => false

/-- Whether a source is present on the channel, playing or waiting. -/
def SoundChannel.holds (ch : SoundChannel) (src : SoundSource) : Bool :=
  ch.plays src || ch.waiting.any (SoundEntry.isFrom src)

/-- Place a request on a channel by the first row of R171 that applies; `age` is its place in the order of joining. -/
def SoundChannel.place (patterns : Vector Pattern 16) (src : SoundSource) (pattern : Fin 16) (held : Bool)
    (age : Nat) (ch : SoundChannel) : SoundChannel :=
  match ch.playing with
  | none => SoundChannel.play patterns ⟨src, pattern, 1, 0, age, held⟩ ch.waiting
  | some e =>
    if e.source = src then SoundChannel.play patterns (e.restart pattern held) ch.waiting
    else if ch.waiting.any (SoundEntry.isFrom src) then
      { ch with
        waiting := sortEntries patterns
          (ch.waiting.map fun w => if w.source = src then w.restart pattern held else w) }
    else if patternPriority patterns e.pattern < patternPriority patterns pattern then
      SoundChannel.play patterns ⟨src, pattern, 1, 0, age, held⟩ (joinWaiting patterns e ch.waiting)
    else
      { ch with waiting := joinWaiting patterns ⟨src, pattern, 1, 0, age, held⟩ ch.waiting }

/-- Remove the entry of a source from a channel, wherever it stands (R173). -/
def SoundChannel.remove (patterns : Vector Pattern 16) (src : SoundSource) (ch : SoundChannel) : SoundChannel :=
  if ch.plays src then ch.next patterns
  else { ch with waiting := ch.waiting.filter fun w => !w.isFrom src }

/-- The time of the playing entry's step has run out (R169). -/
def SoundChannel.advance (patterns : Vector Pattern 16) (ch : SoundChannel) : SoundChannel :=
  match ch.playing with
  | none => ch
  | some e =>
    if e.step < (patterns[e.pattern]).count then
      SoundChannel.play patterns { e with step := e.step + 1 } ch.waiting
    else
      match (patterns[e.pattern]).rep, e.held with
      | .held, true =>
        SoundChannel.play patterns { e with step := 1, repeats := e.repeats + 1 } ch.waiting
      | .held, false => ch.next patterns
      | .times n, _ =>
        if e.repeats + 1 < n then
          SoundChannel.play patterns { e with step := 1, repeats := e.repeats + 1 } ch.waiting
        else ch.next patterns

/-- Restart the entries that name a changed pattern (R166); a playing entry stays playing, a waiting entry takes its
place by its new priority. An entry keeps the held status of its request: DESIGN CHOICE (log 42) for a TEST entry whose
pattern's repeat changes to or from HELD (R167, R180). -/
def SoundChannel.restartPattern (patterns : Vector Pattern 16) (n : Fin 16) (ch : SoundChannel) : SoundChannel :=
  match ch.playing with
  | none => ch
  | some e =>
    let ws := sortEntries patterns
      (ch.waiting.map fun w => if w.pattern = n then w.restart n w.held else w)
    if e.pattern = n then SoundChannel.play patterns (e.restart n e.held) ws
    else { ch with waiting := ws }

/-- The buzzer of a cab end. -/
def endBuzzer : End → Speaker
  | .a => .buzzerA
  | .b => .buzzerB

/-- Whether quiet mode drops a request for a channel and pattern on arrival (R176). -/
def quietDrops (k : Speaker) (pattern : Fin 16) (s : State) : Bool :=
  decide (k = .chime) && s.vl.quiet && decide (patternPriority s.sound.patterns pattern < 4)

/-- A sound request arrives at a channel (R171, R176); a stabled part takes none (R181). -/
def requestSound (k : Speaker) (src : SoundSource) (pattern : Fin 16) (held : Bool) (s : State) : State :=
  if s.isStabled || quietDrops k pattern s then s
  else s.withSound { s.sound with
    channels := s.sound.channels.set k
      ((s.sound.channels.get k).place s.sound.patterns src pattern held s.sound.joins)
    joins := s.sound.joins + 1 }

/-- A held request is released, or a request withdrawn (R173). -/
def withdrawSound (k : Speaker) (src : SoundSource) (s : State) : State :=
  s.withSound { s.sound with
    channels := s.sound.channels.set k ((s.sound.channels.get k).remove s.sound.patterns src) }

/-- Withdraw a source from every channel (R180: TEST when the record leaves DARK). -/
def withdrawEverywhere (src : SoundSource) (s : State) : State :=
  s.withSound { s.sound with channels := s.sound.channels.map (SoundChannel.remove s.sound.patterns src) }

/-- A pattern item was taken: the table changes, and every entry that names the pattern is restarted (R165, R166). -/
def changePattern (n : Fin 16) (p : Pattern) (s : State) : State :=
  s.withSound { s.sound with
    patterns := s.sound.patterns.set n p
    channels := s.sound.channels.map (SoundChannel.restartPattern (s.sound.patterns.set n p) n) }

/-- What a channel's playing entry asks of its output (R163): CHIME plays tone 1 for ON, the others are ON for a tone. -/
def channelOutput (patterns : Vector Pattern 16) (k : Speaker) (ch : SoundChannel) : StepOutput :=
  match ch.playing with
  | none => .off
  | some e =>
    match ((patterns[e.pattern]).place e.step).output with
    | .off => .off
    | .on => if k = .chime then .tone 1 else .on
    | .tone n => if k = .chime then .tone n else .on

/-- The five outputs as they stand (R163); the forced-off timer holds the horn OFF (R177). -/
def soundOutputs (s : State) : PerSpeaker StepOutput where
  bell := channelOutput s.sound.patterns .bell s.sound.channels.bell
  horn := if s.sound.forcedOff.isSome then .off
    else channelOutput s.sound.patterns .horn s.sound.channels.horn
  chime := channelOutput s.sound.patterns .chime s.sound.channels.chime
  buzzerA := channelOutput s.sound.patterns .buzzerA s.sound.channels.buzzerA
  buzzerB := channelOutput s.sound.patterns .buzzerB s.sound.channels.buzzerB

/-- The longest time the horn sounds without a break, in ms (R177). -/
def hornLimit : Nat := 5000

/-- The time the horn is forced off, in ms (R177). -/
def forcedOffTime : Nat := 500

/-- Every playing entry ends and every waiting list empties; the horn's duty state is cleared (R181). -/
def silenceAll (s : State) : State :=
  s.withSound { s.sound with channels := silentChannels, hornOn := 0, forcedOff := none }

end Sys2Proof.Machine
end

