-- ==== Sys2Proof/Machine/Emergency.lean ====
section
/-!
DEFINITION. The emergency latch, its release, and the derate ladder (chapter 4, sections 4.1 to 4.6).
-/

namespace Sys2Proof.Machine

/-- The bit of a source in the source set (section 10.10, common codes). -/
def EmergencySource.bit : EmergencySource → Nat
  | .lever => 0
  | .vigilance => 1
  | .link => 2
  | .key => 3
  | .loop => 4
  | .point => 5
  | .speed => 6
  | .consist => 7
  | .partner => 8
  | .command => 9

/-- The ten sources in the order of their bits. -/
def allSources : List EmergencySource :=
  [.lever, .vigilance, .link, .key, .loop, .point, .speed, .consist, .partner, .command]

/-- Whether the latch is holding (section 4.1). -/
def State.holding (s : State) : Bool := decide (s.emerg.recorded ≠ 0)

/-- Whether a source is recorded. -/
def State.hasSource (s : State) (src : EmergencySource) : Bool := s.emerg.recorded.getLsbD src.bit

/-- The pattern of the emergency sound (R164). -/
def emergencyPattern : Fin 16 := 7

/-- An emergency source is set (R68). The brake line follows at the end of the event (R71, `settle`). -/
def setSource (src : EmergencySource) (s : State) : State :=
  if s.emerg.recorded = 0 then
    raiseFlag .emergency (appendEvent (.emergencyApplied src)
      (requestSound .horn .emergency emergencyPattern false
        (requestSound .bell .emergency emergencyPattern false
          (s.withEmerg { s.emerg with recorded := bitMask src.bit, first := some src }))))
  else if s.hasSource src then s
  else appendEvent (.emergencyAdded src)
    (s.withEmerg { s.emerg with recorded := s.emerg.recorded ||| bitMask src.bit })

/-- The own-source set: the recorded sources other than PARTNER (section 4.4). -/
def State.ownSources (s : State) : Word16 := s.emerg.recorded &&& ~~~(bitMask EmergencySource.partner.bit)

/-- Whether a lever field is a number and not E. -/
def Lever.isNumber : Lever → Bool
  | .number _ => true
  | .emergency => false

/-- Whether the release condition of a source is clear (R72), tested for a reset from end `e`. For a REMOTE part the
conditions of LEVER, VIGILANCE, LINK and KEY count as clear. -/
def conditionClear (e : End) (s : State) : EmergencySource → Bool
  | .lever => s.isRemote || (match s.activeEnd with
      | some x => (s.slot x).lever.isNumber
      | none => false)
  | .vigilance => s.isRemote || (match s.activeEnd with
      | some x => (s.slot x).deadman
      | none => false)
  | .link => s.isRemote || (s.port (endPort e)).link
  | .key => s.isRemote || s.pins.key.get e
  | .loop => s.pins.passengerClosed
  | .point => s.speed.standstill
  | .speed => allAxles.any fun c => match (axleGet s.speed.axles c).health with
      | .healthy _ _ => true
      | .faulted _ _ => false
  | .consist => decide (s.consist.state = .single) || s.isCoupled
  | .partner => !s.isCoupled || (match s.consist.latest with
      | some f => decide (f.ownSources = 0) && (!s.isRemote || !f.holding)
      | none => false)
  | .command => !s.emerg.commandHold

/-- The recorded sources among `srcs` whose release conditions are not clear, as a set. -/
def unresolvedOf (e : End) (s : State) (srcs : List EmergencySource) : Word16 :=
  srcs.foldl (fun acc src =>
    if s.hasSource src && !conditionClear e s src then acc ||| bitMask src.bit else acc) 0

/-- The recorded sources whose release conditions are not clear for end `e` (R73, R79). -/
def unresolved (e : End) (s : State) : Word16 := unresolvedOf e s allSources

/-! ### The derate ladder -/

/-- The lowest rung of 1, 2, 3, 4, 6, 8 at or above a value; 0 counts as 1, above 8 as 8 (R80, R184). -/
def rungAtOrAbove (n : Nat) : Nat :=
  if n ≤ 1 then 1 else if n ≤ 4 then n else if n ≤ 6 then 6 else 8

/-- The next lower rung of 8, 6, 4, 3, 2, 1 (R82). -/
def rungBelow (d : Nat) : Nat :=
  if 8 ≤ d then 6 else if 6 ≤ d then 4 else if 2 ≤ d then d - 1 else 1

/-- The divisor of a demand, 1 when absent. -/
def demandValue (d : Option Nat) : Nat := d.getD 1

/-- The target: the largest divisor among the demands present, 1 when none is (section 4.6). -/
def Demands.target (d : Demands) : Nat :=
  max 1 (max (demandValue d.sensor) (max (demandValue d.reference)
    (max (demandValue d.adhesion) (max (demandValue d.vehicle) (demandValue d.partner)))))

/-- The settle time in ms (R82). -/
def settleTime : Nat := 3000

/-- The divisor changes to `d`, with its event and flag (R81, R82, R83, R84). -/
def changeDivisor (d : Nat) (s : State) : State :=
  raiseFlag .derate (appendEvent (.derate d) (s.withEmerg { s.emerg with divisor := d }))

/-- The settle timer after the demands changed from target `before` to `target` with divisor `d` (R81, R82). -/
def settleAfter (before target d : Nat) (timer : Option Nat) : Option Nat :=
  if d ≤ target then none
  else match timer with
    | none => some settleTime
    | some t => if before < target then some settleTime else some t

/-- New derate demands are handed over (R81, R82). -/
def handDemands (d : Demands) (s : State) : State :=
  let s1 := s.withEmerg { s.emerg with
    demands := d
    settle := settleAfter s.emerg.demands.target d.target s.emerg.divisor s.emerg.settle }
  if s.emerg.divisor < d.target then changeDivisor d.target s1 else s1

/-- Hand over demands only where they differ from those held (R80). -/
def handIfChanged (d : Demands) (s : State) : State :=
  if s.emerg.demands = d then s else handDemands d s

/-- The momentary RELEASE demand (R84). -/
def releaseDemand (s : State) : State :=
  let s1 := s.withEmerg { s.emerg with
    settle := if s.emerg.demands.target < 8 then some settleTime else none }
  if s.emerg.divisor < 8 then changeDivisor 8 s1 else s1

/-- The settle timer expires (R82): one rung down, the timer restarted while the target is still below. -/
def stepDown (s : State) : State :=
  let d := rungBelow s.emerg.divisor
  changeDivisor d (s.withEmerg { s.emerg with
    settle := if s.emerg.demands.target < d then some settleTime else none })

/-- The next computation is to start from an O_prev of -100 (R59, R74). -/
def rampNext (s : State) : State := s.withShaper { s.shaper with released := true }

/-- A release of the latch (R74). The speed unit goes on reading the demand last sent (section 2.1): DEDUCED (log 38). -/
def releaseLatch (s : State) : State :=
  rampNext (releaseDemand (raiseFlag .emergency (appendEvent (.emergencyReleased s.emerg.first)
    (withdrawSound .horn .emergency (withdrawSound .bell .emergency
      (s.withEmerg { s.emerg with recorded := 0, first := none }))))))

end Sys2Proof.Machine
end

