-- ==== Sys2Proof/Machine/Vigilance.lean ====
section
/-!
DEFINITION. The vigilance monitor (section 4.7).
-/

namespace Sys2Proof.Machine

/-- The times of the monitor in ms (R86, R87). -/
def graceTime : Nat := 1500

/-- The time without a sign of the driver after which the monitor warns, in ms (R87). -/
def vigilanceTime : Nat := 60000

/-- The time a TIME warning stands before PENALTY, in ms (R87). -/
def warningTime : Nat := 3000

/-- The monitor enters a state. -/
def setVigil (v : Vigil) (s : State) : State := s.withEmerg { s.emerg with vigil := v }

/-- VIGILANCE_WARN is requested, held, on the active end's buzzer (R86, R87). -/
def requestWarn (s : State) : State :=
  match s.activeEnd with
  | some e => requestSound (endBuzzer e) .vigilanceWarn 5 true (s.withEmerg { s.emerg with warnedAt := some e })
  | none => s

/-- A VIGILANCE_WARN request still held is released (R85 to R88). -/
def releaseWarn (s : State) : State :=
  match s.emerg.warnedAt with
  | some e => withdrawSound (endBuzzer e) .vigilanceWarn (s.withEmerg { s.emerg with warnedAt := none })
  | none => s

/-- The monitor returns to QUIET with its timers at zero, its buzzer request released. -/
def toQuiet (s : State) : State := releaseWarn (setVigil (.quiet 0) s)

/-- The monitor stops running (R85). -/
def stopVigilance (s : State) : State :=
  toQuiet (s.withEmerg { s.emerg with running := false })

/-- Whether the deadman hold in the active end's slot is HELD. -/
def State.holdHeld (s : State) : Bool :=
  match s.activeEnd with
  | some e => (s.slot e).deadman
  | none => false

/-- The monitor starts or stops running (R85): it runs while the record is ACTIVE and v_ref is 5 or more. -/
def testVigilance (s : State) : State :=
  if s.activeEnd.isSome && decide (5 ≤ s.speed.vRef) then
    if s.emerg.running then s
    else if s.holdHeld then toQuiet (s.withEmerg { s.emerg with running := true })
    else requestWarn (setVigil (.warningHold graceTime) (s.withEmerg { s.emerg with running := true }))
  else if s.emerg.running then stopVigilance s
  else s

/-- The monitor enters PENALTY (R88). -/
def enterPenalty (s : State) : State :=
  match s.emerg.action with
  | .brake => releaseWarn (setSource .vigilance
      (appendEvent (.vigilancePenalty .brake) (setVigil .penalty s)))
  | .warnOnly => appendEvent (.vigilancePenalty .warnOnly) (setVigil .penalty s)

/-- The monitor is given the deadman hold of the active end's slot (R86). -/
def vigilanceHold (hold : Bool) (s : State) : State :=
  if s.emerg.running then
    match s.emerg.vigil, hold with
    | .quiet _, false => requestWarn (setVigil (.warningHold graceTime) s)
    | .warningHold _, true => toQuiet s
    | .warningTime left, false => setVigil (.warningHold (min graceTime left)) s
    | .quiet _, true => s
    | .warningHold _, false => s
    | .warningTime _, true => s
    | .penalty, _ => s
  else s

/-- The monitor is told of a change of the lever value (R87). -/
def vigilanceLever (s : State) : State :=
  if s.emerg.running then
    match s.emerg.vigil with
    | .quiet _ => setVigil (.quiet 0) s
    | .warningTime _ => toQuiet s
    | .warningHold _ => s
    | .penalty => s
  else s

/-- The monitor is told of an acknowledge press (R87, R88). -/
def vigilanceAck (s : State) : State :=
  if s.emerg.running then
    match s.emerg.vigil with
    | .quiet _ => setVigil (.quiet 0) s
    | .warningTime _ => toQuiet s
    | .warningHold _ => s
    | .penalty => if s.holdHeld then toQuiet s else s
  else s

/-- Authority begins at an end (R11, R85): the monitor starts in QUIET with its timers at zero, then it is tested;
a lever at E in the new active end's slot sets source LEVER. -/
def authorityBegins (e : End) (s : State) : State :=
  let s1 := testVigilance (stopVigilance s)
  if (s.slot e).lever = .emergency then setSource .lever s1 else s1

end Sys2Proof.Machine
end

