-- ==== Sys2Proof/Machine/Wayside.lean ====
section
/-!
DEFINITION. The source queues, the telegram arbiter and the transmitter (chapter 6, sections 6.3 to 6.6).
-/

namespace Sys2Proof.Machine

/-- The places of JR, JQ, SP and VX (section 6.3). -/
def jrPlaces : Nat := 4

/-- The places of JQ. -/
def jqPlaces : Nat := 2

/-- The places of SP. -/
def spPlaces : Nat := 2

/-- The places of VX. -/
def vxPlaces : Nat := 4

/-- The time of a transmission in ms (R131). -/
def transmissionTime : Nat := 12

/-- Whether a source's queue holds an entry (R127). -/
def Wayside.waiting (w : Wayside) : Source → Bool
  | .jr => !w.jr.isEmpty
  | .jq => !w.jq.isEmpty
  | .sp => !w.sp.isEmpty
  | .vx => !w.vx.isEmpty

/-- Whether a source is at level 1; VX always is (R127, R130). -/
def Wayside.levelOne (w : Wayside) : Source → Bool
  | .jr => w.levels.jr
  | .jq => w.levels.jq
  | .sp => w.levels.sp
  | .vx => true

/-- Whether all four queues are empty. -/
def Wayside.allEmpty (w : Wayside) : Bool :=
  w.jr.isEmpty && w.jq.isEmpty && w.sp.isEmpty && w.vx.isEmpty

/-- The level-0 ring from a position on, in ring order (R127). -/
def ring0From : Ring0 → List Ring0
  | .jr => [.jr, .jq, .sp, .slot]
  | .jq => [.jq, .sp, .slot, .jr]
  | .sp => [.sp, .slot, .jr, .jq]
  | .slot => [.slot, .jr, .jq, .sp]

/-- The level-1 ring from a position on, in ring order (R127). -/
def ring1From : Source → List Source
  | .jr => [.jr, .jq, .sp, .vx]
  | .jq => [.jq, .sp, .vx, .jr]
  | .sp => [.sp, .vx, .jr, .jq]
  | .vx => [.vx, .jr, .jq, .sp]

/-- The source at a position of the level-0 ring, none for the SLOT. -/
def ring0Source : Ring0 → Option Source
  | .jr => some .jr
  | .jq => some .jq
  | .sp => some .sp
  | .slot => none

/-- The position after a source in the level-0 ring; VX has none there, and the SLOT's is JR (R128). -/
def after0 : Source → Ring0
  | .jr => .jq
  | .jq => .sp
  | .sp => .slot
  | .vx => .jr

/-- The position after a source in the level-1 ring (R128). -/
def after1 : Source → Source
  | .jr => .jq
  | .jq => .sp
  | .sp => .vx
  | .vx => .jr

/-- The first waiting member of the level-1 ring from the level-1 pointer on (R128). -/
def Wayside.searchSlot (w : Wayside) : Option Source :=
  (ring1From w.ptr1).find? fun src => w.levelOne src && w.waiting src

/-- The source a position of the level-0 ring would have granted, none where it is no member or is not waiting. -/
def Wayside.candidate (w : Wayside) (pos : Ring0) : Option Source :=
  match ring0Source pos with
  | some src => if !w.levelOne src && w.waiting src then some src else none
  | none => w.searchSlot

/-- The arbiter's search (R128): the first waiting member of the level-0 ring, the SLOT standing for level 1. -/
def Wayside.search (w : Wayside) : Option Source :=
  (ring0From w.ptr0).findSome? w.candidate

/-- The pointers after a grant (R128, R129): a level-0 source moves the level-0 pointer past it, a level-1 source the
level-1 pointer past it and the level-0 pointer past the SLOT. -/
def Wayside.movePointers (w : Wayside) (src : Source) : Wayside :=
  if w.levelOne src then { w with ptr1 := after1 src, ptr0 := .jr }
  else { w with ptr0 := after0 src }

/-- The telegram of a JR entry (R121). -/
def JrEntry.telegram (vehicle : Nat) : JrEntry → Telegram
  | .request j leg => .pointRequest j vehicle leg
  | .cancel j => .pointCancel j vehicle

/-- Take the head entry of a queue and build its telegram (R131, R121). -/
def Wayside.takeHead (w : Wayside) (src : Source) (vehicle : Nat) : Option (Telegram × Wayside) :=
  match src with
  | .jr => match w.jr with
    | [] => none
    | e :: es => some (e.telegram vehicle, { w with jr := es })
  | .jq => match w.jq with
    | [] => none
    | j :: js => some (.statusQuery j vehicle, { w with jq := js })
  | .sp => match w.sp with
    | [] => none
    | r :: rs => some (.priorityRequest r.crossing vehicle r.cls, { w with sp := rs })
  | .vx => match w.vx with
    | [] => none
    | b :: bs => some (.service vehicle b, { w with vx := bs })

/-- Mark the record of a junction as having sent its request (R101). -/
def markSent (j : Nat) (records : List JunctionRecord) : List JunctionRecord :=
  records.map fun r => if r.junction = j then { r with sent := true } else r

/-- The junction unit is told of the grant of a point request (R101, R131). -/
def tellGrant (t : Telegram) (s : State) : State :=
  match t with
  | .pointRequest j _ _ => s.withJunction { s.junction with records := markSent j s.junction.records }
  | .pointCancel _ _ => s
  | .statusQuery _ _ => s
  | .priorityRequest _ _ _ => s
  | .service _ _ => s

/-- Grant a source (R128, R131): its head entry is built and sent, the pointers move, the source is parked on. -/
def grant (src : Source) (s : State) : State :=
  match s.wayside.takeHead src s.vl.vehicleNumber with
  | none => s
  | some (t, w) =>
    tellGrant t (s.withWayside { (w.movePointers src) with
      sending := some ⟨t, src, transmissionTime⟩, parked := src })

/-- The arbiter makes a grant where the radio is idle and a queue is waiting (R128). -/
def arbitrate (s : State) : State :=
  if s.wayside.sending.isSome then s
  else match s.wayside.search with
    | some src => grant src s
    | none => s

/-- An entry has joined the queue of `src`; `before` is the transceiver before it joined. On an idle radio the arbiter
acts at once: by parking where every queue was empty and `src` is the parked source, else by search (R123, R129). -/
def afterOffer (src : Source) (before : Wayside) (s : State) : State :=
  if s.wayside.sending.isSome then s
  else if before.allEmpty && decide (before.parked = src) then grant src s
  else arbitrate s

/-- The junction of a JR entry. -/
def JrEntry.junction : JrEntry → Nat
  | .request j _ => j
  | .cancel j => j

/-- JR after an offer (R124): the new entry takes the place of one for the same junction, else joins at the tail where
there is room; none where it is skipped. -/
def offerJrList (e : JrEntry) (q : List JrEntry) : Option (List JrEntry) :=
  if q.any fun x => decide (x.junction = e.junction) then
    some (q.map fun x => if x.junction = e.junction then e else x)
  else if q.length < jrPlaces then some (q ++ [e])
  else none

/-- Offer a request or cancel to JR (R123, R124); none where it is skipped. A stabled part's transceiver is offered no
telegram (R136, log 30). -/
def offerJr (e : JrEntry) (s : State) : Option State :=
  if s.isStabled then none
  else (offerJrList e s.wayside.jr).map fun q =>
    afterOffer .jr s.wayside (s.withWayside { s.wayside with jr := q })

/-- Offer a point request, skipped this time where JR is full (R98, R102). -/
def offerRequest (j : Nat) (leg : Leg) (s : State) : State := (offerJr (.request j leg) s).getD s

/-- Offer a status query to JQ (R125): discarded where one for the junction waits, skipped where JQ is full. -/
def offerQuery (j : Nat) (s : State) : State :=
  if s.isStabled || s.wayside.jq.any (fun x => decide (x = j)) then s
  else if s.wayside.jq.length < jqPlaces then
    afterOffer .jq s.wayside (s.withWayside { s.wayside with jq := s.wayside.jq ++ [j] })
  else s

/-- Offer a priority request to SP (R126, R133): PRIORITY_REQUESTED where it joins, PRIORITY_DROPPED where SP is full. -/
def offerPriority (r : Priority) (s : State) : State :=
  if s.isStabled then s
  else if s.wayside.sp.length < spPlaces then
    afterOffer .sp s.wayside
      (appendEvent (.priorityRequested r.crossing r.cls)
        (s.withWayside { s.wayside with sp := s.wayside.sp ++ [r] }))
  else appendEvent (.priorityDropped r.crossing .full) s

/-- Offer six service bytes to VX (R126); none where VX is full. -/
def offerService (bytes : List Byte) (s : State) : Option State :=
  if s.isStabled then none
  else if s.wayside.vx.length < vxPlaces then
    some (afterOffer .vx s.wayside (s.withWayside { s.wayside with vx := s.wayside.vx ++ [bytes] }))
  else none

/-- Remove the entry for a junction from JR and the query for it from JQ, where one waits (R106, R111, R124, R125, R132;
log 32). -/
def removeRequests (j : Nat) (s : State) : State :=
  s.withWayside { s.wayside with
    jr := s.wayside.jr.filter fun x => decide (x.junction ≠ j)
    jq := s.wayside.jq.filter fun x => decide (x ≠ j) }

/-- A completed departure releases the held priority slot (R134). -/
def releaseHeldPriority (s : State) : State :=
  match s.wayside.held with
  | some r => offerPriority r (s.withWayside { s.wayside with held := none })
  | none => s

/-- A driving-end change empties the held priority slot (R134). -/
def dropHeldPriority (s : State) : State :=
  match s.wayside.held with
  | some r => appendEvent (.priorityDropped r.crossing .handover) (s.withWayside { s.wayside with held := none })
  | none => s

/-- A request is placed in the held priority slot (R133, R134): one already held is replaced. -/
def holdPriority (r : Priority) (s : State) : State :=
  let s1 := match s.wayside.held with
    | some old => appendEvent (.priorityDropped old.crossing .replaced) s
    | none => s
  appendEvent (.priorityHeld r.crossing r.cls) (s1.withWayside { s1.wayside with held := some r })

/-- The transceiver of a part that enters STABLED (R136): queues and held slot empty, a transmission completes. -/
def emptyWayside (s : State) : State :=
  s.withWayside { s.wayside with jr := [], jq := [], sp := [], vx := [], held := none }

end Sys2Proof.Machine
end

