-- ==== Sys2Proof/Machine/Junction.lean ====
section
/-!
DEFINITION. The junction table, the junction ceiling, entry to and passage of a point, and the driving-end change
(chapter 5, sections 5.2 to 5.8).
-/

namespace Sys2Proof.Machine

/-- The ceiling that stands for "no ceiling" (00_scope.md, units). -/
def noCeiling : Nat := 800

/-- The places of the junction table (R93). -/
def tablePlaces : Nat := 4

/-- The places of the route plan (R91). -/
def planPlaces : Nat := 32

/-- The report timer in ms (R98). -/
def reportTime : Nat := 2000

/-- The re-request timer in ms (R98). -/
def reRequestTime : Nat := 1000

/-- The hold timer of the enquiry slot in ms (R115). -/
def holdTime : Nat := 3000

/-- The remaining distance r in dm from a request-to-point distance in m and a marker odometer (R104). -/
def remaining (odo : Count24) (distance : Nat) (marker : Count24) : Int :=
  (10 * distance : Int) - (odoRun odo marker : Int)

/-- The remaining distance of a record. -/
def JunctionRecord.r (odo : Count24) (x : JunctionRecord) : Int := remaining odo x.distance x.marker

/-- The remaining distance of the overflow junction. -/
def JunctionContents.r (odo : Count24) (x : JunctionContents) : Int := remaining odo x.distance x.marker

/-- The ceiling of a point neither entered nor LOCKED (R104, third row on). -/
def approachCeiling (permit : Bool) (r : Int) (ceiling : Nat) : Nat :=
  if permit then min ceiling 100
  else if 400 ≤ r then ceiling
  else if 200 ≤ r then min ceiling 100
  else 0

/-- The ceiling a record gives (R104). -/
def JunctionRecord.ceilingNow (odo : Count24) (x : JunctionRecord) : Nat :=
  match x.state with
  | .onPoint => x.ceiling
  | .locked => x.ceiling
  | .requested => approachCeiling x.permit (x.r odo) x.ceiling
  | .set => approachCeiling x.permit (x.r odo) x.ceiling
  | .mismatch => approachCeiling x.permit (x.r odo) x.ceiling
  | .noReport => approachCeiling x.permit (x.r odo) x.ceiling
  | .unplanned => approachCeiling x.permit (x.r odo) x.ceiling

/-- The junction ceiling Cj as it stands (R104). -/
def junctionCeiling (s : State) : Nat :=
  if s.junction.tableFull then 0
  else
    (s.junction.records.map (JunctionRecord.ceilingNow s.speed.odometer)).foldl min
      (match s.junction.overflow with
        | some o => min noCeiling (approachCeiling o.permit (o.r s.speed.odometer) o.ceiling)
        | none => noCeiling)

/-- Whether a record makes the warning condition true (R105). -/
def JunctionRecord.warns (odo : Count24) (x : JunctionRecord) : Bool :=
  decide (x.state ≠ .locked) && decide (x.state ≠ .onPoint) && !x.permit && decide (x.r odo < 400)

/-- The warning condition (R105). -/
def warningCondition (s : State) : Bool :=
  s.junction.records.any (JunctionRecord.warns s.speed.odometer) ||
    (match s.junction.overflow with
      | some o => !o.permit && decide (o.r s.speed.odometer < 400)
      | none => false)

/-- The record of a junction in a table. -/
def recordOf (j : Nat) (records : List JunctionRecord) : Option JunctionRecord :=
  records.find? fun x => decide (x.junction = j)

/-- The record of a junction. -/
def State.record (s : State) (j : Nat) : Option JunctionRecord := recordOf j s.junction.records

/-- Replace the table. -/
def setRecords (records : List JunctionRecord) (s : State) : State :=
  s.withJunction { s.junction with records := records }

/-- Apply a change to the record of a junction. -/
def updateRecord (j : Nat) (f : JunctionRecord → JunctionRecord) (s : State) : State :=
  setRecords (s.junction.records.map fun x => if x.junction = j then f x else x) s

/-- A record from what a new junction was given (R98). -/
def JunctionContents.toRecord (c : JunctionContents) : JunctionRecord where
  junction := c.junction
  leg := c.leg
  ceiling := c.ceiling
  distance := c.distance
  length := c.length
  marker := c.marker
  entry := none
  state := if c.leg.isSome then .requested else .unplanned
  lastReport := none
  permit := c.permit
  sent := false
  reportTimer := if c.leg.isSome then some reportTime else none
  reTimer := if c.leg.isSome then some reRequestTime else none

/-- A record is made for a junction (R98): REQUESTED with a point request on JR, or UNPLANNED without a leg. -/
def makeRecord (c : JunctionContents) (s : State) : State :=
  let s1 := setRecords (s.junction.records ++ [c.toRecord]) s
  match c.leg with
  | some leg => appendEvent (.junctionRequested c.junction (some leg)) (offerRequest c.junction leg s1)
  | none => appendEvent (.junctionUnplanned c.junction) s1

/-- The junction formed by R96 is placed (R97). -/
def placeJunction (c : JunctionContents) (s : State) : State :=
  if s.junction.records.length < tablePlaces then makeRecord c s
  else match s.junction.overflow with
    | none => s.withJunction { s.junction with overflow := some c }
    | some _ => appendEvent (.tableFull c.junction) (s.withJunction { s.junction with tableFull := true })

/-- A record was freed (R109): the table-full hold clears, and a record is made from the overflow slot. -/
def promoteOverflow (s : State) : State :=
  match s.junction.overflow with
  | some c => makeRecord c (s.withJunction { s.junction with tableFull := false, overflow := none })
  | none => s.withJunction { s.junction with tableFull := false }

/-- Take the record of a junction out of the table. -/
def dropRecord (j : Nat) (s : State) : State :=
  setRecords (s.junction.records.filter fun x => decide (x.junction ≠ j)) s

/-- The cancel a cancelled record owes the wayside (R111, step 2). -/
def owedCancel (x : JunctionRecord) (s : State) : State :=
  if x.sent then
    match offerJr (.cancel x.junction) s with
    | some s' => s'
    | none => appendEvent (.cancelDropped x.junction) s
  else s

/-- Cancel a record (R111, steps 1 to 4). -/
def cancelRecord (x : JunctionRecord) (s : State) : State :=
  promoteOverflow (appendEvent (.junctionCancelled x.junction)
    (dropRecord x.junction (owedCancel x (removeRequests x.junction s))))

/-- Insert a record into a list by increasing junction number. -/
def insertByNumber (x : JunctionRecord) : List JunctionRecord → List JunctionRecord
  | [] => [x]
  | y :: ys => if x.junction < y.junction then x :: y :: ys else y :: insertByNumber x ys

/-- The records not in ON_POINT, in increasing order of junction number (R113). -/
def cancellable (records : List JunctionRecord) : List JunctionRecord :=
  (records.filter fun x => decide (x.state ≠ .onPoint)).foldr insertByNumber []

/-- Cancel the records of a list one after the other; each is cancelled as it then stands. -/
def cancelAll : List JunctionRecord → State → State
  | [], s => s
  | x :: xs, s =>
    cancelAll xs (match s.record x.junction with
      | some y => cancelRecord y s
      | none => s)

/-- The driving-end change (R113, R134). The held priority request is dropped, and PRIORITY_DROPPED appended, before the
junction unit's four steps: DESIGN CHOICE (log 36), since no rule orders the two units. -/
def drivingEndChange (s : State) : State :=
  let s1 := dropHeldPriority (s.withJunction { s.junction with overflow := none, tableFull := false })
  let s2 := cancelAll (cancellable s1.junction.records) s1
  s2.withJunction { s2.junction with pendingLeg := none, pendingPermit := false }

/-- The code of a record state (section 10.10, common codes). -/
def RecordState.code : RecordState → Byte
  | .requested => 0
  | .set => 1
  | .locked => 2
  | .mismatch => 3
  | .noReport => 4
  | .unplanned => 5
  | .onPoint => 6

/-- A record as it stands in ON_POINT (R106). -/
def JunctionRecord.entered (odo : Count24) (x : JunctionRecord) : JunctionRecord :=
  { x with state := .onPoint, entry := some odo, permit := false, reportTimer := none, reTimer := none }

/-- A record enters ON_POINT (R106). -/
def enterPoint (x : JunctionRecord) (s : State) : State :=
  let s1 := removeRequests x.junction
    (updateRecord x.junction (JunctionRecord.entered s.speed.odometer) s)
  if x.state = .locked then s1
  else if x.permit then appendEvent (.permitUsed x.junction) s1
  else appendEvent (.junctionOverrun x.junction x.state.code) (setSource .point s1)

/-- The overflow junction reaches its point (R107). The state its JUNCTION_OVERRUN event names is a free value among the seven
codes, since the slot holds no state (log 20). -/
def enterOverflow (c : JunctionContents) (s : State) : State :=
  let s1 := s.withJunction { s.junction with overflow := none }
  if c.permit then appendEvent (.permitUsed c.junction) s1
  else
    appendEvent (.junctionOverrun c.junction (BitVec.ofNat 8 (s1.freshValue.1 % 7)))
      (setSource .point s1.freshValue.2)

/-- The consist length in dm as it stands (R191). -/
def consistLength (s : State) : Nat :=
  if s.isCoupled then
    match s.consist.latest with
    | some f => s.vl.length + f.length
    | none => s.vl.length
  else s.vl.length

/-- Whether a record in ON_POINT has run its clearing distance (R108). -/
def hasCleared (s : State) (x : JunctionRecord) : Bool :=
  decide (x.state = .onPoint) &&
    (match x.entry with
      | some e => decide (10 * x.length + consistLength s ≤ odoRun s.speed.odometer e)
      | none => false)

/-- A passed record is freed (R108, R109). -/
def passRecord (x : JunctionRecord) (s : State) : State :=
  promoteOverflow (appendEvent (.junctionPassed x.junction x.leg) (dropRecord x.junction s))

/-- Bring every record whose remaining distance has run out onto its point (R106), in the order of the table's list: DESIGN
CHOICE (log 37), since no rule orders them. -/
def enterReached : List JunctionRecord → State → State
  | [], s => s
  | x :: xs, s =>
    enterReached xs
      (if decide (x.state ≠ .onPoint) && decide (x.r s.speed.odometer ≤ 0) then enterPoint x s else s)

/-- Bring the overflow junction onto its point where its remaining distance has run out (R107). -/
def overflowReached (s : State) : State :=
  match s.junction.overflow with
  | some c => if c.r s.speed.odometer ≤ 0 then enterOverflow c s else s
  | none => s

/-- Free every record that has run its clearing distance (R108), in the order of the table's list: DESIGN CHOICE (log 37), since
no rule orders them. -/
def passCleared : List JunctionRecord → State → State
  | [], s => s
  | x :: xs, s => passCleared xs (if hasCleared s x then passRecord x s else s)

/-- The junction unit's part of a period update (R105 to R108; log 12). -/
def junctionPeriod (s : State) : State :=
  let s1 := overflowReached (enterReached s.junction.records s)
  passCleared s1.junction.records s1

/-- Whether record `x` comes before `y` as the nearest (R110): smaller r, then smaller junction number. -/
def nearer (odo : Count24) (x y : JunctionRecord) : Bool :=
  decide (x.r odo < y.r odo) || (decide (x.r odo = y.r odo) && decide (x.junction < y.junction))

/-- The nearest of a list of records (R110). -/
def nearestOf (odo : Count24) : List JunctionRecord → Option JunctionRecord
  | [] => none
  | x :: xs =>
    if x.state = .onPoint then nearestOf odo xs
    else match nearestOf odo xs with
      | some y => if nearer odo y x then some y else some x
      | none => some x

/-- The nearest record (R110). -/
def nearest (s : State) : Option JunctionRecord := nearestOf s.speed.odometer s.junction.records

/-! ### REQUEST and ENTRY markers (sections 5.3, 5.7) -/

/-- Match a junction among the first `n` entries of a plan: the entries skipped, the match, the rest (R96). -/
def matchPlan (j : Nat) : Nat → List PlanEntry → Option (List PlanEntry × PlanEntry × List PlanEntry)
  | 0, _ => none
  | _ + 1, [] => none
  | n + 1, e :: es =>
    if e.junction = j then some ([], e, es)
    else (matchPlan j n es).map fun m => (e :: m.1, m.2.1, m.2.2)

/-- The entries of the plan a REQUEST marker looks at (R96). -/
def planReach : Nat := 3

/-- Append JUNCTION_SKIPPED for each skipped entry (R96). -/
def appendSkipped : List PlanEntry → State → State
  | [], s => s
  | e :: es, s => appendSkipped es (appendEvent (.junctionSkipped e.junction) s)

/-- The leg of a new junction: the pending manual leg if present, else the one given (R96). -/
def chosenLeg (s : State) (planned : Option Leg) : Option Leg :=
  match s.junction.pendingLeg with
  | some l => some l
  | none => planned

/-- The contents of a new junction (R96). -/
def contentsFor (j : Nat) (s : State) : JunctionContents :=
  match matchPlan j planReach s.junction.plan with
  | some (_, e, _) =>
    ⟨j, chosenLeg s (some e.leg), e.ceiling, e.distance, e.length, s.speed.odometer, s.junction.pendingPermit⟩
  | none => ⟨j, chosenLeg s none, 100, 30, 60, s.speed.odometer, s.junction.pendingPermit⟩

/-- A new junction is formed from the plan and the pending items, which are used up, and placed (R96, R97). -/
def newJunction (j : Nat) (s : State) : State :=
  let c := contentsFor j s
  let s1 := match matchPlan j planReach s.junction.plan with
    | some (skipped, _, rest) => appendSkipped skipped (s.withJunction { s.junction with plan := rest })
    | none => s
  placeJunction c (s1.withJunction { s1.junction with pendingLeg := none, pendingPermit := false })

/-- The record's leg requested again, the re-request timer restarted (R95). -/
def repeatRequest (x : JunctionRecord) (s : State) : State :=
  let s1 := updateRecord x.junction (fun y => { y with reTimer := some reRequestTime }) s
  match x.leg with
  | some leg => offerRequest x.junction leg s1
  | none => s1

/-- Whether a junction is in the overflow slot. -/
def State.inOverflow (s : State) (j : Nat) : Bool :=
  match s.junction.overflow with
  | some c => decide (c.junction = j)
  | none => false

/-- A REQUEST marker is acted on (R95, R96). -/
def requestMarker (j : Nat) (s : State) : State :=
  match s.record j with
  | some x =>
    match x.state with
    | .requested => repeatRequest x s
    | .set => repeatRequest x s
    | .mismatch => repeatRequest x s
    | .noReport => repeatRequest x s
    | .locked => s
    | .onPoint => s
    | .unplanned => s
  | none => if s.inOverflow j then s else newJunction j s

/-- An ENTRY marker is acted on (R106, R107). -/
def entryMarker (j : Nat) (s : State) : State :=
  match s.record j with
  | some x => if x.state = .onPoint then s else enterPoint x s
  | none =>
    match s.junction.overflow with
    | some c => if c.junction = j then enterOverflow c s else appendEvent (.entryUnmatched j) s
    | none => appendEvent (.entryUnmatched j) s

/-! ### Point reports (section 5.4) -/

/-- Whether a position is the leg's. -/
def posIsLeg (leg : Option Leg) : Position → Bool
  | .left => decide (leg = some .left)
  | .straight => decide (leg = some .straight)
  | .right => decide (leg = some .right)
  | .moving => false

/-- The record state a report gives a record in REQUESTED, SET, MISMATCH or NO_REPORT (R99). -/
def judgeReport (own : Nat) (leg : Option Leg) (before : RecordState) (pos : Position) (lock : Lock) : RecordState :=
  match lock with
  | .occupied => .mismatch
  | .lockedFor v =>
    if v ≠ own then .mismatch
    else if pos = .moving then before
    else if posIsLeg leg pos then .locked
    else .mismatch
  | .free =>
    if pos = .moving then before
    else if posIsLeg leg pos then .set
    else .mismatch

/-- The timers of a record that moves from one state to another by a report (R99, R100). -/
def timersAfter (before after : RecordState) (x : JunctionRecord) : JunctionRecord :=
  if after = .locked then { x with reportTimer := none, reTimer := none }
  else if before = .locked then { x with reportTimer := none, reTimer := some reRequestTime }
  else if after = .requested then { x with reportTimer := some reportTime }
  else { x with reportTimer := none }

/-- The event a report's judgement appends (R99). -/
def reportEvent (j : Nat) (before after : RecordState) (pos : Position) (lock : Lock) (s : State) : State :=
  if before = after then s
  else if after = .locked then appendEvent (.junctionLocked j) s
  else if before = .locked then appendEvent (.lockLost j pos lock) s
  else if after = .mismatch then appendEvent (.junctionMismatch j pos lock) s
  else s

/-- The state of a record after a report (R99): a LOCKED record stays LOCKED only for its leg locked for this vehicle. -/
def stateAfterReport (own : Nat) (x : JunctionRecord) (pos : Position) (lock : Lock) : RecordState :=
  match x.state with
  | .locked => if judgeReport own x.leg .mismatch pos lock = .locked then .locked else .mismatch
  | .requested => judgeReport own x.leg .requested pos lock
  | .set => judgeReport own x.leg .set pos lock
  | .mismatch => judgeReport own x.leg .mismatch pos lock
  | .noReport => judgeReport own x.leg .noReport pos lock
  | .unplanned => .unplanned
  | .onPoint => .onPoint

/-- A report judged against a record (R99, R100): ignored in ON_POINT, only held in UNPLANNED. -/
def judgeRecord (x : JunctionRecord) (pos : Position) (lock : Lock) (s : State) : State :=
  if x.state = .onPoint then s
  else if x.state = .unplanned then
    updateRecord x.junction (fun y => { y with lastReport := some ⟨pos, lock, 0⟩ }) s
  else
    reportEvent x.junction x.state (stateAfterReport s.vl.vehicleNumber x pos lock) pos lock
      (updateRecord x.junction (fun y =>
        timersAfter y.state (stateAfterReport s.vl.vehicleNumber x pos lock)
          { y with
            state := stateAfterReport s.vl.vehicleNumber x pos lock
            lastReport := some ⟨pos, lock, 0⟩ }) s)

/-- A report offered to the held enquiry slot (R116; log 22). -/
def offerToSlot (j : Nat) (pos : Position) (lock : Lock) (s : State) : State :=
  match s.junction.enquiry with
  | .free => s
  | .waiting k _ =>
    if k = j then s.withJunction { s.junction with enquiry := .ready j ⟨pos, lock, 0⟩ holdTime } else s
  | .ready k _ t =>
    if k = j then s.withJunction { s.junction with enquiry := .ready j ⟨pos, lock, 0⟩ t } else s

/-- A point report reaches the junction unit (R99, R100, R116). -/
def takeReport (j : Nat) (pos : Position) (lock : Lock) (s : State) : State :=
  offerToSlot j pos lock (match s.record j with
    | some x => judgeRecord x pos lock s
    | none => s)

/-! ### Timers of the records (section 5.5) -/

/-- A record's re-request timer expires (R102). -/
def reRequest (x : JunctionRecord) (s : State) : State :=
  let s1 := updateRecord x.junction (fun y => { y with reTimer := some reRequestTime }) s
  match x.state, x.leg with
  | .set, _ => offerQuery x.junction s1
  | _, some leg => offerRequest x.junction leg s1
  | _, none => s1

/-- The report timer of a REQUESTED record expires (R103). -/
def noReport (x : JunctionRecord) (s : State) : State :=
  appendEvent (.junctionNoReport x.junction)
    (updateRecord x.junction (fun y => { y with state := .noReport, reportTimer := none }) s)

/-! ### The POINT_WARN request (R105) -/

/-- The end on whose buzzer POINT_WARN stands, as the warning condition and the record ask at the end of an event. -/
def warnWanted (s : State) : Option End := if warningCondition s then s.activeEnd else none

/-- Release and request POINT_WARN as the warning condition and the record now ask (R105; log 23). -/
def settleWarning (s : State) : State :=
  if warnWanted s = s.junction.pointWarn then s
  else
    let s1 := match s.junction.pointWarn with
      | some e => withdrawSound (endBuzzer e) .pointWarn s
      | none => s
    let s2 := match warnWanted s with
      | some e => requestSound (endBuzzer e) .pointWarn 6 true s1
      | none => s1
    s2.withJunction { s2.junction with pointWarn := warnWanted s }

end Sys2Proof.Machine
end

