-- ==== Sys2Proof/Machine/Stop.lean ====
section
/-!
DEFINITION. The stop state, presses, pulses, the departure, the door interlock, the mirror of a REMOTE part and the
request lines (chapter 7).
-/

namespace Sys2Proof.Machine

/-- The time of an auto-open pulse in ms (R148). -/
def pulseTime : Nat := 200

/-- The distance in dm after which a departure completes (R151). -/
def departureRun : Nat := 20

/-- Replace the own stop state. -/
def setOwn (o : StopState) (s : State) : State := s.withStop { s.stop with own := o }

/-- Whether a door of the own vehicle lies on physical side 2 (00_scope.md, sides and doors). -/
def onSide2 (d : Nat) : Bool := decide (4 ≤ d)

/-- The doors of a set in increasing order. -/
def doorsIn (ds : DoorSet) : List Nat := (List.range 16).filter fun d => ds.getLsbD d

/-- Give an auto-open pulse to an own door (R148). -/
def givePulse (d : Fin 8) (s : State) : State :=
  s.withStop { s.stop with pulses := s.stop.pulses.set d (some pulseTime) }

/-- End every running pulse (R148). -/
def endPulses (s : State) : State := s.withStop { s.stop with pulses := Vector.replicate 8 none }

/-- The assist flag is set for a door where it was CLEAR, with its chime and event (R144). -/
def setAssist (d : Nat) (s : State) : State :=
  if s.stop.own.assist then s
  else appendEvent (.assistRequested d)
    (requestSound .chime .assistChime 3 false (setOwn { s.stop.own with assist := true } s))

/-- The assist flag is set for a press of class ASSIST only. -/
def setAssistFor (c : PressClass) (d : Nat) (s : State) : State :=
  match c with
  | .assist => setAssist d s
  | .standard => s

/-- The stop state moves to REQUESTED with a set of doors (R143, R151). -/
def enterRequested (doors : DoorSet) (d : Nat) (c : PressClass) (s : State) : State :=
  appendEvent (.stopRequested d c)
    (requestSound .chime .stopChime 2 false
      (setOwn { s.stop.own with phase := .requested, doors := doors } s))

/-- A door joins the door-request set. -/
def joinDoor (d : Nat) (s : State) : State :=
  setOwn { s.stop.own with doors := s.stop.own.doors ||| bitMask d } s

/-- A press becomes an early press (R146). -/
def earlyPress (d : Nat) (c : PressClass) (s : State) : State :=
  setOwn { s.stop.own with
    earlyPress := true
    earlyDoors := s.stop.own.earlyDoors ||| bitMask d
    earlyAssist := s.stop.own.earlyAssist || decide (c = .assist) } s

/-- A press of an own door acted on by the local stop state (R143 to R146). -/
def pressOwn (d : Fin 8) (c : PressClass) (s : State) : State :=
  match s.stop.own.phase with
  | .none => setAssistFor c d.val (enterRequested (s.stop.own.doors ||| bitMask d.val) d.val c s)
  | .requested => setAssistFor c d.val (joinDoor d.val s)
  | .atStop =>
    if (if onSide2 d.val then s.stop.own.side2 else s.stop.own.side1) then
      setAssistFor c d.val (givePulse d (joinDoor d.val s))
    else s
  | .departing => earlyPress d.val c s

/-- A forwarded press acted on by a lead as a press of door `d + 8` (R156): not judged by side, no pulse. -/
def pressForwarded (d : Fin 8) (c : PressClass) (s : State) : State :=
  match s.stop.own.phase with
  | .none => setAssistFor c (d.val + 8) (enterRequested (s.stop.own.doors ||| bitMask (d.val + 8)) (d.val + 8) c s)
  | .requested => setAssistFor c (d.val + 8) (joinDoor (d.val + 8) s)
  | .atStop => setAssistFor c (d.val + 8) (joinDoor (d.val + 8) s)
  | .departing => earlyPress (d.val + 8) c s

/-- The forward list with a press placed, unless the place already holds ASSIST (R155). -/
def placeForward (d : Fin 8) (c : PressClass) (s : State) : State :=
  s.withStop { s.stop with
    forward := if s.stop.forward[d] = some .assist then s.stop.forward
      else s.stop.forward.set d (some c) }

/-- A mirror that shows NONE with no sides released (R159). -/
def Mirror.none : Mirror := ⟨.none, 0, false, false, false⟩

/-- The mirror as it stands; NONE before the first frame (R159). -/
def State.mirrorNow (s : State) : Mirror := s.stop.mirror.getD Mirror.none

/-- A press taken by a REMOTE part, judged against the mirror (R155). -/
def pressRemote (d : Fin 8) (c : PressClass) (s : State) : State :=
  match s.mirrorNow.phase with
  | .none => placeForward d c s
  | .requested => placeForward d c s
  | .departing => placeForward d c s
  | .atStop =>
    if (if onSide2 d.val then s.mirrorNow.side2 else s.mirrorNow.side1) then placeForward d c (givePulse d s)
    else s

/-! ### The departure (R151) -/

/-- Whether the departure completes now (R151). -/
def departureReady (s : State) : Bool :=
  decide (s.stop.own.phase = .departing) && s.pins.doorClosed &&
    (match s.stop.own.closeOdo with
      | some c => decide (departureRun ≤ odoRun s.speed.odometer c)
      | none => false)

/-- An early assist carried over (R147, R151): the assist flag is set with its chime and event. Which of several early
doors the event names is a free value (log 20). -/
def carryAssist (early : DoorSet) (s : State) : State :=
  match doorsIn early with
  | [] => setAssist 0 s
  | d :: ds => setAssist (chooseFrom s d ds).1 (chooseFrom s d ds).2

/-- The early presses go over into REQUESTED (R151, step 2). -/
def carryEarly (s : State) : State :=
  let o := s.stop.own
  let s1 := setOwn { o with earlyPress := false, earlyDoors := 0, earlyAssist := false } s
  let s2 := enterRequested o.earlyDoors ((doorsIn o.earlyDoors).headD 0)
    (if o.earlyAssist then .assist else .standard) s1
  if o.earlyAssist then carryAssist o.earlyDoors s2 else s2

/-- The departure completes (R151). -/
def completeDeparture (s : State) : State :=
  let s1 := releaseHeldPriority (setOwn { s.stop.own with phase := .none, doors := 0, closeOdo := none } s)
  if s1.stop.own.earlyPress then carryEarly s1 else s1

/-- The departure is tested (R151). -/
def testDeparture (s : State) : State := if departureReady s then completeDeparture s else s

/-! ### The interlock (R154) -/

/-- The door interlock as it stands (R154, R47). -/
def interlock (s : State) : Bool :=
  if s.isRemote then
    !s.pins.doorClosed || s.mirrorNow.side1 || s.mirrorNow.side2 || s.mirrorNow.assist ||
      (decide (s.mirrorNow.phase = .departing) && !s.pins.doorClosed)
  else
    !s.pins.doorClosed || s.stop.own.side1 || s.stop.own.side2 || s.stop.own.assist ||
      (decide (s.stop.own.phase = .departing) && !s.pins.doorClosed)

/-! ### REMOTE and STABLED (R159, R160) -/

/-- The record becomes REMOTE (R159): the own stop state is dropped, the mirror starts at NONE. -/
def stopBecomesRemote (s : State) : State :=
  endPulses (s.withStop { s.stop with
    own := StopState.none
    forward := Vector.replicate 8 none
    mirror := some Mirror.none })

/-- The record leaves REMOTE (R155, R159): mirror and forward list are dropped, running pulses end. -/
def stopLeavesRemote (s : State) : State :=
  endPulses (s.withStop { s.stop with forward := Vector.replicate 8 none, mirror := none })

/-- The record enters STABLED (R160). -/
def stopStabled (s : State) : State :=
  endPulses (s.withStop { s.stop with own := StopState.none, mirror := none })

/-! ### The mirror of a REMOTE part (R157, R158) -/

/-- The physical sides LEFT and RIGHT name, seen from an end: from A, left is side 1; from B, left is side 2. -/
def physicalSides (e : End) (left right : Bool) : Bool × Bool :=
  match e with
  | .a => (left, right)
  | .b => (right, left)

/-- The mirror a stop block gives, through the facing end; without one no side is mirrored (R157, R190). -/
def mirrorOf (facing : Option End) (b : StopBlock) : Mirror :=
  match facing with
  | some e => ⟨b.phase, b.doors, b.assist, (physicalSides e b.left b.right).1, (physicalSides e b.left b.right).2⟩
  | none => ⟨b.phase, b.doors, b.assist, false, false⟩

/-- The pulses a new mirror gives to the own doors `d` with `d + 8` in its set on a newly named side (R157). -/
def mirrorPulses (old new : Mirror) (pulses : Vector (Option Nat) 8) : Vector (Option Nat) 8 :=
  Vector.ofFn fun d : Fin 8 =>
    if new.doors.getLsbD (d.val + 8) &&
        (if onSide2 d.val then new.side2 && !old.side2 else new.side1 && !old.side1) then some pulseTime
    else pulses[d]

/-- The chimes a change of the mirror asks for (R158). -/
def mirrorChimes (old new : Mirror) (s : State) : State :=
  let s1 := if new.phase = .requested ∧ old.phase ≠ .requested then
    requestSound .chime .mirror 2 false s else s
  let s2 := if new.assist && !old.assist then requestSound .chime .mirror 3 false s1 else s1
  if new.phase = .departing ∧ old.phase ≠ .departing then requestSound .chime .mirror 4 false s2 else s2

/-- A REMOTE part takes the lead's stop block as its mirror (R157, R158). -/
def takeMirror (b : StopBlock) (s : State) : State :=
  let old := s.mirrorNow
  let new := mirrorOf s.consist.facingEnd b
  let s1 := s.withStop { s.stop with
    mirror := some new
    pulses := mirrorPulses old new s.stop.pulses }
  mirrorChimes old new (if new.phase = .departing ∨ new.phase = .none then endPulses s1 else s1)

/-- A lead acts on forwarded presses in increasing order of door (R156). -/
def takeForwarded (presses : Vector (Option PressClass) 8) : List (Fin 8) → State → State
  | [], s => s
  | d :: ds, s =>
    takeForwarded presses ds (match presses[d] with
      | some c => pressForwarded d c s
      | none => s)

/-- The own doors in increasing order. -/
def ownDoors : List (Fin 8) := [0, 1, 2, 3, 4, 5, 6, 7]

/-! ### The request lines (R140, R141) -/

/-- The active samples that make a press (R140). -/
def pressRun : Nat := 3

/-- The active samples after which a line is STUCK (R141). -/
def stuckRun : Nat := 1000

/-- The inactive samples after which a STUCK line is IDLE again (R141). -/
def freedRun : Nat := 100

/-- What a sample of a line brings. -/
inductive LineEvent where
  | nothing
  | press
  | stuck
deriving DecidableEq, Repr

/-- A line on which a press is taken. -/
def RequestLine.pressed (l : RequestLine) : RequestLine := { l with state := .held, activeRun := pressRun }

/-- A line that becomes STUCK (R141). -/
def RequestLine.stick (l : RequestLine) : RequestLine :=
  { l with state := .stuck, activeRun := stuckRun, inactiveRun := 0 }

/-- A line that is IDLE again. -/
def RequestLine.rest (l : RequestLine) : RequestLine := { l with state := .idle, activeRun := 0, inactiveRun := 0 }

/-- A line after one sample, and what the sample brought (R140). A line of class OFF stays as it is (R139). -/
def RequestLine.sample (active : Bool) (l : RequestLine) : RequestLine × LineEvent :=
  if l.cls = .off then (l, .nothing)
  else match l.state, active with
    | .idle, true => ({ l with state := .counting, activeRun := 1 }, .nothing)
    | .idle, false => (l, .nothing)
    | .counting, true =>
      if pressRun ≤ l.activeRun + 1 then (l.pressed, .press)
      else ({ l with activeRun := l.activeRun + 1 }, .nothing)
    | .counting, false => (l.rest, .nothing)
    | .held, true =>
      if stuckRun ≤ l.activeRun + 1 then (l.stick, .stuck)
      else ({ l with activeRun := l.activeRun + 1 }, .nothing)
    | .held, false => (l.rest, .nothing)
    | .stuck, true => ({ l with inactiveRun := 0 }, .nothing)
    | .stuck, false =>
      if freedRun ≤ l.inactiveRun + 1 then (l.rest, .nothing)
      else ({ l with inactiveRun := l.inactiveRun + 1 }, .nothing)

/-- Replace a request line. -/
def setLine (n : Fin 32) (l : RequestLine) (s : State) : State :=
  s.withStop { s.stop with lines := s.stop.lines.set n l }

/-- The class of the presses of a line, none for OFF. -/
def LineClass.press : LineClass → Option PressClass
  | .off => none
  | .standard => some .standard
  | .assist => some .assist

end Sys2Proof.Machine
end

