-- ==== Sys2Proof/Machine/Authority.lean ====
section
/-!
DEFINITION. Changes of the authority record with all that follows from them, the consist state and role that follow the
record, claims that end, the driving-end change, stabling and wake (chapter 1; R159, R168, R180, R186 to R188).
-/

namespace Sys2Proof.Machine

/-- The park timer in ms (R7 to R9). -/
def parkTime : Nat := 120000

/-- The intent timer in ms (R13). -/
def intentTime : Nat := 300

/-- The claiming end an AUTHORITY_CHANGED event names (R1, section 10.10). -/
def Record.claimant : Record → Option End
  | .claiming i => some i.claimant
  | .dark => none
  | .active _ => none
  | .parked _ _ => none
  | .remote => none
  | .stabled _ => none

/-- The record a previous state stands for (R16). -/
def Previous.record : Previous → Record
  | .dark => .dark
  | .parked e t => .parked e t

/-- Both manual requests of an end are released (R168). -/
def releaseManual (s : State) : State :=
  withdrawSound .horn .manualHorn (withdrawSound .bell .manualBell s)

/-- What follows from the record that is left: manual sounds and vigilance end with ACTIVE (R168, R85), TEST entries
with DARK (R180), mirrors with REMOTE (R155, R159, R179). -/
def leaveRecord (old : Record) (s : State) : State :=
  match old with
  | .active _ => stopVigilance (releaseManual s)
  | .dark => withdrawEverywhere .test s
  | .remote =>
    let s1 := withdrawSound .bell .mirror (stopLeavesRemote s)
    s1.withSound { s1.sound with bellItem := none }
  | .claiming _ => s
  | .parked _ _ => s
  | .stabled _ => s

/-- What follows from the record that is entered: authority begins with ACTIVE (R11), the own stop state is dropped with
REMOTE (R159). -/
def enterRecord (new : Record) (s : State) : State :=
  match new with
  | .active e => authorityBegins e s
  | .remote => stopBecomesRemote s
  | .dark => s
  | .claiming _ => s
  | .parked _ _ => s
  | .stabled _ => s

/-- Write the record. -/
def setRecord (r : Record) (s : State) : State := s.withAuth { s.auth with record := r }

/-- The record changes, with its trip event and what follows in this part alone (R1). -/
def changeRecordCore (new : Record) (s : State) : State :=
  if s.auth.record.shown = new.shown then setRecord new s
  else
    enterRecord new (leaveRecord s.auth.record
      (appendEvent (.authorityChanged new.shown new.claimant) (setRecord new s)))

/-! ### Consist state and role -/

/-- Forget the remembered answer (R14). -/
def forgetAnswer (s : State) : State := s.withAuth { s.auth with answered := none }

/-- The partner's vehicle number as CONSIST_CHANGED gives it (R187). -/
def partnerNumber (c : ConsistUnit) : Nat :=
  match c.identity with
  | some (n, _) => n
  | none => 0

/-- Whether a frame shows its sender ACTIVE. -/
def ConsistFrame.showsActive (f : ConsistFrame) : Bool := decide (f.authority.state = .active)

/-- Whether the latest partner frame shows the partner ACTIVE. -/
def partnerActive (c : ConsistUnit) : Bool :=
  match c.latest with
  | some f => f.showsActive
  | none => false

/-- The facing end a frame gives (R190; log 21). -/
def facingFor (own : Option End) (f : ConsistFrame) : Option End :=
  match f.authority.activeEnd with
  | some x => if f.coupledEnd = some x then own.map otherEnd else own
  | none => none

/-- The facing end held: while COUPLED with the latest frame showing the partner ACTIVE, absent otherwise (R190). -/
def ConsistUnit.facing (c : ConsistUnit) : Option End :=
  if c.state = .coupled then
    match c.latest with
    | some f => if f.showsActive then facingFor c.coupledEnd f else none
    | none => none
  else none

/-- The role derived from the consist state, the record and the latest frame (R187). -/
def roleFor (r : Record) (c : ConsistUnit) : Option Role :=
  if c.state = .coupled then
    match r with
    | .active _ => some .lead
    | .remote => if partnerActive c then some .trail else some .neutral
    | .dark => some .neutral
    | .claiming _ => some .neutral
    | .parked _ _ => some .neutral
    | .stabled _ => some .neutral
  else none

/-- The PARTNER derate demand is withdrawn (R80, R187). -/
def withdrawPartner (s : State) : State := handIfChanged { s.emerg.demands with partner := none } s

/-- CONSIST_CHANGED with the state, role and partner as they stand (R187). -/
def reportConsist (s : State) : State :=
  appendEvent (.consistChanged s.consist.state s.consist.role (partnerNumber s.consist)) s

/-- The role is recomputed (R187): a change is reported, and on leaving LEAD the PARTNER demand goes. -/
def recomputeRole (s : State) : State :=
  if s.consist.role = roleFor s.auth.record s.consist then s
  else
    let s1 := reportConsist (s.withConsist { s.consist with role := roleFor s.auth.record s.consist })
    if s.consist.role = some .lead then withdrawPartner s1 else s1

/-- The consist state changes (R185, R186, R192, R193): with its role and report, the remembered answer forgotten, and the
PARTNER demand withdrawn where the part no longer leads. The facing end follows the new state (R190). -/
def setConsistState (new : ConsistState) (s : State) : State :=
  if s.consist.state = new then s
  else
    let c : ConsistUnit := { s.consist with state := new }
    let s1 := reportConsist (forgetAnswer (s.withConsist { c with
      role := roleFor s.auth.record c
      facingEnd := c.facing }))
    if s.consist.role = some .lead then withdrawPartner s1 else s1

/-- An ACCEPTED answer without result data to the claim of an end (R13, R16). -/
def answerClaim (e : End) (answer : Command → TxEntry) (s : State) : State :=
  match (s.port (endPort e)).unanswered with
  | some c => deliver (endPort e) (answer c)
      (s.setPort (endPort e) { s.port (endPort e) with unanswered := none })
  | none => s

/-- The refusal of a claim by its owner. -/
def claimRefused (reason : Reason) (c : Command) : TxEntry := .refused c.kind c.tag reason .owner

/-- The acceptance of a claim. -/
def claimAccepted (c : Command) : TxEntry := .accepted c.kind c.tag []

/-- A claim exchange ends in a refusal (R16, R17): the record returns to the previous state, the driving-end change is asked
for where that is DARK, and the claim is answered. `change` is how the record changes. -/
def endClaimBy (change : Record → State → State) (i : ClaimIntent) (reason : Reason) (s : State) : State :=
  let s1 := change i.previous.record s
  let s2 := match i.previous with
    | .dark => drivingEndChange s1
    | .parked _ _ => s1
  answerClaim i.claimant (claimRefused reason) s2

/-- The consist state has left COUPLED (R186): an exchange ends NO_PARTNER, a REMOTE record becomes DARK (R18). -/
def leftCoupled (s : State) : State :=
  match s.auth.record with
  | .claiming i => endClaimBy changeRecordCore i .noPartner s
  | .remote => changeRecordCore .dark s
  | .dark => s
  | .active _ => s
  | .parked _ _ => s
  | .stabled _ => s

/-- The consist state changes, with the consequences of leaving COUPLED (R186). -/
def moveConsist (new : ConsistState) (s : State) : State :=
  if s.consist.state = .coupled ∧ new ≠ .coupled then leftCoupled (setConsistState new s)
  else setConsistState new s

/-- How a pair is judged (R185, R186): MISMATCH, CONFLICT or COUPLED, by the first row that applies. -/
def judgePair (f : ConsistFrame) (s : State) : ConsistState :=
  if f.vehicle = s.vl.vehicleNumber ∨ f.rank = s.vl.rank then .mismatch
  else if s.activeEnd.isSome ∧ f.showsActive then .conflict
  else .coupled

/-- The pair is evaluated again at a change of this part's authority state, on the latest frame (R186). -/
def reevaluate (s : State) : State :=
  if s.consist.state = .coupled ∨ s.consist.state = .conflict ∨ s.consist.state = .mismatch then
    match s.consist.latest with
    | some f => moveConsist (judgePair f s) s
    | none => s
  else s

/-- The record changes, with all that follows (R1, R186, R187). What authority's beginning brings (R11), EMERGENCY_APPLIED of a
lever at E with it, stands before the CONSIST_CHANGED of the state or role this change brings, and that before what the change then asks of the
junction and wayside units: DESIGN CHOICE (log 10). -/
def changeRecord (new : Record) (s : State) : State :=
  if s.auth.record.shown = new.shown then setRecord new s
  else recomputeRole (reevaluate (changeRecordCore new s))

/-! ### Ways the record changes -/

/-- The record becomes PARKED with the park timer at 120 s (R7 to R9). -/
def park (e : End) (s : State) : State := changeRecord (.parked e parkTime) s

/-- The record becomes REMOTE, and the driving-end change is asked for (R14, R15, R188). The CONSIST_CHANGED of the role (R187,
R189) stands before the PRIORITY_DROPPED and JUNCTION_CANCELLED of that change: DESIGN CHOICE (log 10). -/
def becomeRemote (s : State) : State := drivingEndChange (changeRecord .remote s)

/-- A handover: ACTIVE at the other end, then the driving-end change (R5). The CONSIST_CHANGED of the role (R187, R189) stands
before the events of that change: DESIGN CHOICE (log 10). -/
def handover (e : End) (s : State) : State := drivingEndChange (changeRecord (.active e) s)

/-- A claim exchange ends in a refusal by a local event or a DENY (R16, R17). -/
def endClaim (i : ClaimIntent) (reason : Reason) (s : State) : State := endClaimBy changeRecord i reason s

/-- A claim exchange ends in a GRANT (R16). -/
def grantClaim (i : ClaimIntent) (s : State) : State :=
  answerClaim i.claimant claimAccepted (match i.previous with
    | .parked e _ => if e = i.claimant then changeRecord (.active i.claimant) s else handover i.claimant s
    | .dark => changeRecord (.active i.claimant) s)

/-- The port of a claim keeps it as taken and unanswered (R13). -/
def keepClaim (e : End) (c : Command) (s : State) : State :=
  s.setPort (endPort e) { s.port (endPort e) with unanswered := some c }

/-- A claim begins an exchange (R13). The claim is kept before the record changes: where the change of this part's authority
state shows a pair that is no longer COUPLED (R186), the exchange ends in the same event and the claim is answered (R17). -/
def beginExchange (e : End) (prev : Previous) (c : Command) (s : State) : State :=
  changeRecord (.claiming ⟨e, intentTime, s.auth.lastExchange + 1, prev⟩)
    ((keepClaim e c s).withAuth { s.auth with lastExchange := s.auth.lastExchange + 1 })

/-- The park timer expires (R10). -/
def parkExpires (s : State) : State :=
  match s.auth.record with
  | .parked _ _ => drivingEndChange (changeRecord .dark s)
  | .claiming i =>
    match i.previous with
    | .parked _ _ => drivingEndChange (setRecord (.claiming { i with previous := .dark }) s)
    | .dark => s
  | .dark => s
  | .active _ => s
  | .remote => s
  | .stabled _ => s

/-! ### Stabling and wake (section 1.6) -/

/-- Empty the partner's identity, frame, count, ends and timer (R192 to R194). -/
def emptyPartner (s : State) : State :=
  s.withConsist { s.consist with
    identity := none, count := 0, latest := none, timer := none, coupledEnd := none, facingEnd := none }

/-- The consist state becomes SINGLE (R192, R193, R194). -/
def toSingle (s : State) : State := moveConsist .single (emptyPartner s)

/-- Both cab slots take their empty values and are STALE (R20). -/
def emptySlots (s : State) : State := s.withAuth { s.auth with slots := ⟨Slot.empty, Slot.empty⟩ }

/-- The record enters STABLED (R20, R136, R160, R181, R194). Frames that stand in a transmit FIFO are still sent: DESIGN CHOICE
(log 39) for a display or consist train queued before. The pair is evaluated again (R186) before the consist state becomes
SINGLE: DESIGN CHOICE (log 51), seen where the own number or rank was just configured equal to the partner's. -/
def enterStabled (threshold : Nat) (s : State) : State :=
  toSingle (emptyWayside (silenceAll (stopStabled (emptySlots (changeRecord (.stabled threshold) s)))))

/-- The fixed level of a wake source (R21). -/
def WakeSource.level : WakeSource → Nat
  | .key _ => 6
  | .command => 5
  | .consistFrame => 4
  | .doorLoop => 3
  | .passengerLoop => 3
  | .press => 1

/-- The part wakes (R22): DARK, WOKEN appended, an open passenger emergency loop sets LOOP. -/
def wakeUp (src : WakeSource) (s : State) : State :=
  let s1 := appendEvent (.woken src) (changeRecord .dark s)
  if s1.pins.passengerClosed then s1 else setSource .loop s1

/-- A wake source arrives (R22): a level greater than the threshold wakes a STABLED part, any other is discarded. -/
def tryWake (src : WakeSource) (s : State) : State :=
  match s.auth.record with
  | .stabled threshold => if threshold < src.level then wakeUp src s else s
  | .dark => s
  | .claiming _ => s
  | .active _ => s
  | .parked _ _ => s
  | .remote => s

/-! ### Links and keys (R3, R8, R9) -/

/-- A cab slot is set to its empty values and marked STALE (R3). -/
def emptySlot (e : End) (s : State) : State :=
  s.withAuth { s.auth with slots := s.auth.slots.set e Slot.empty }

/-- The link of a cab end goes LOST (R3, R9, R17). -/
def cabLinkLost (e : End) (s : State) : State :=
  let s1 := emptySlot e s
  match s.auth.record with
  | .active x =>
    if x = e then park e (setSource .link (vigilanceHold false (releaseManual s1))) else s1
  | .claiming i => if i.claimant = e then endClaim i .link s1 else s1
  | .dark => s1
  | .parked _ _ => s1
  | .remote => s1
  | .stabled _ => s1

/-- The key of an end goes off (R8). -/
def keyGoesOff (e : End) (s : State) : State :=
  match s.auth.record with
  | .active x =>
    if x = e then
      if s.speed.standstill then park e s else setSource .key (park e s)
    else s
  | .claiming i => if i.claimant = e then endClaim i .noKey s else s
  | .dark => s
  | .parked _ _ => s
  | .remote => s
  | .stabled _ => s

end Sys2Proof.Machine
end

