-- ==== Sys2Proof/Machine/Consist.lean ====
section
/-!
DEFINITION. The consist frame received and acted on (chapter 9, sections 9.2 to 9.6; section 1.5 for the claim messages).
-/

namespace Sys2Proof.Machine

/-- The partner timer in ms (R184). -/
def partnerTime : Nat := 100

/-- The count of consistent frames that settles a pair (R185). -/
def joinFrames : Nat := 3

/-- Whether a frame's identity is accepted (R184). -/
def ConsistFrame.acceptable (f : ConsistFrame) : Bool :=
  decide (1 ≤ f.vehicle ∧ f.vehicle ≤ 9999) && decide (100 ≤ f.length ∧ f.length ≤ 600)

/-- An accepted frame with its ceiling, divisor and Rk brought into range (R184). -/
def ConsistFrame.clamped (f : ConsistFrame) : ConsistFrame :=
  { f with
    ceiling := min f.ceiling noCeiling
    divisor := rungAtOrAbove f.divisor
    rk := max (-100) (min 100 f.rk) }

/-- The frame is stored, its end becomes the coupled end, the partner timer restarts (R184). -/
def storeFrame (f : ConsistFrame) (e : End) (s : State) : State :=
  s.withConsist { s.consist with latest := some f, coupledEnd := some e, timer := some partnerTime }

/-- The frame's identity becomes the partner identity, with a joining count of 1 (R185, R186). -/
def newIdentity (f : ConsistFrame) (s : State) : State :=
  s.withConsist { s.consist with identity := some (f.vehicle, f.rank), count := 1 }

/-- A frame in JOINING (R185). -/
def joinFrame (f : ConsistFrame) (s : State) : State :=
  if s.consist.identity = some (f.vehicle, f.rank) then
    if joinFrames ≤ s.consist.count + 1 then
      moveConsist (judgePair f s) (s.withConsist { s.consist with count := 0 })
    else s.withConsist { s.consist with count := s.consist.count + 1 }
  else forgetAnswer (newIdentity f s)

/-- A frame in COUPLED, CONFLICT or MISMATCH (R186). -/
def pairFrame (f : ConsistFrame) (s : State) : State :=
  if s.consist.identity = some (f.vehicle, f.rank) then moveConsist (judgePair f s) s
  else moveConsist .joining (newIdentity f s)

/-- Step 1 of R189: the consist state is settled. -/
def settleConsist (f : ConsistFrame) (s : State) : State :=
  match s.consist.state with
  | .single => moveConsist .joining (newIdentity f s)
  | .severed => moveConsist .joining (newIdentity f s)
  | .joining => joinFrame f s
  | .coupled => pairFrame f s
  | .conflict => pairFrame f s
  | .mismatch => pairFrame f s

/-- An answer to this part's own intent (R16); one that fits no running exchange is discarded. -/
def takeAnswer (f : ConsistFrame) (s : State) : State :=
  match f.answer, s.auth.record with
  | some (n, granted), .claiming i =>
    if n = i.exchange then (if granted then grantClaim i s else endClaim i .heldByOther s) else s
  | _, _ => s

/-- The answer decided is remembered (R14). -/
def rememberAnswer (n : Byte) (granted : Bool) (s : State) : State :=
  s.withAuth { s.auth with answered := some (n, granted) }

/-- A claim lost by rank (R15): refused LOST_TIE, the record becomes REMOTE. -/
def loseTie (i : ClaimIntent) (s : State) : State :=
  answerClaim i.claimant (claimRefused .lostTie) (becomeRemote s)

/-- A new INTENT is decided once (R14, R15). -/
def decideIntent (n : Byte) (rank : Nat) (s : State) : State :=
  if ¬ s.isCoupled ∨ s.activeEnd.isSome ∨ ¬ s.speed.standstill then rememberAnswer n false s
  else match s.auth.record with
    | .dark => becomeRemote (rememberAnswer n true s)
    | .parked _ _ => becomeRemote (rememberAnswer n true s)
    | .remote => rememberAnswer n true s
    | .claiming i =>
      if s.vl.rank < rank then rememberAnswer n false s else loseTie i (rememberAnswer n true s)
    | .active _ => rememberAnswer n false s
    | .stabled _ => rememberAnswer n false s

/-- The partner's INTENT, or its absence (R14). -/
def takeIntent (f : ConsistFrame) (s : State) : State :=
  match f.intent with
  | none => forgetAnswer s
  | some n =>
    if s.auth.answered.map Prod.fst = some n then s else decideIntent n f.rank s

/-- The partner's shown authority: a REMOTE record follows it (R18), a DARK or PARKED record is adopted by an ACTIVE partner
(R188). `claiming`: this part was CLAIMING as the frame's messages were taken; a part whose exchange this frame ends is
adopted by the next frame (R188). -/
def followPartner (claiming : Bool) (f : ConsistFrame) (s : State) : State :=
  match s.auth.record with
  | .remote =>
    if f.authority.state = .active ∨ f.authority.state = .claiming then s else changeRecord .dark s
  | .dark => if !claiming && s.isCoupled && f.showsActive then becomeRemote s else s
  | .parked _ _ => if !claiming && s.isCoupled && f.showsActive then becomeRemote s else s
  | .active _ => s
  | .claiming _ => s
  | .stabled _ => s

/-- The facing end is recomputed (R190). -/
def recomputeFacing (s : State) : State :=
  s.withConsist { s.consist with facingEnd := s.consist.facing }

/-- The PARTNER source (R76). -/
def takeEmergency (f : ConsistFrame) (s : State) : State :=
  if s.isCoupled && (decide (f.ownSources ≠ 0) || (s.isRemote && f.holding)) then setSource .partner s else s

/-- The recorded sources a REMOTE part keeps: PARTNER, and those whose condition still stands (R77). -/
def keptSources (s : State) : Word16 :=
  s.emerg.recorded &&& (unresolved .a s ||| bitMask EmergencySource.partner.bit)

/-- A REMOTE part at standstill withdraws its other sources whose conditions are clear (R77). -/
def withdrawSources (s : State) : State :=
  if s.isRemote && s.speed.standstill && s.hasSource .partner then
    s.withEmerg { s.emerg with recorded := keptSources s }
  else s

/-- A REMOTE part that holds only PARTNER releases itself (R78). -/
def selfRelease (f : ConsistFrame) (s : State) : State :=
  if s.isRemote && decide (s.emerg.recorded = bitMask EmergencySource.partner.bit) && !f.holding
      && decide (f.ownSources = 0) && s.speed.standstill then releaseLatch s
  else s

/-- The PARTNER derate demand of a lead (R80). -/
def takeDivisor (f : ConsistFrame) (s : State) : State :=
  if s.isCoupled && decide (s.consist.role = some .lead) then
    handIfChanged { s.emerg.demands with partner := some f.divisor } s
  else s

/-- Forwarded presses at a lead (R156). -/
def takePresses (f : ConsistFrame) (s : State) : State :=
  if s.isCoupled && decide (s.consist.role = some .lead) then
    match f.presses with
    | some p => takeForwarded p ownDoors s
    | none => s
  else s

/-- The stop mirror of a REMOTE part (R157, R158). -/
def takeStopBlock (f : ConsistFrame) (s : State) : State :=
  if s.isRemote then
    match f.stopBlock with
    | some b => takeMirror b s
    | none => s
  else s

/-- The bell mirror of a REMOTE part (R179). -/
def takeBell (f : ConsistFrame) (s : State) : State :=
  if s.isRemote then
    let s1 :=
      if f.manualBell && decide (s.sound.bellItem ≠ some true) then requestSound .bell .mirror 0 true s
      else if !f.manualBell && decide (s.sound.bellItem = some true) then withdrawSound .bell .mirror s
      else s
    s1.withSound { s1.sound with bellItem := some f.manualBell }
  else s

/-- An accepted frame is acted on in the order of R189. -/
def actOnFrame (f : ConsistFrame) (e : End) (s : State) : State :=
  let s1 := settleConsist f (storeFrame f e s)
  let s2 := followPartner s1.auth.record.claimant.isSome f (takeIntent f (takeAnswer f s1))
  let s3 := recomputeFacing (recomputeRole s2)
  let s4 := takeDivisor f (selfRelease f (withdrawSources (takeEmergency f s3)))
  takeBell f (takeStopBlock f (takePresses f s4))

/-- A consist frame reaches the consist unit (R184): a wake source while STABLED, discarded where its identity is out of
range, acted on otherwise. -/
def takeConsistFrame (f : ConsistFrame) (e : End) (s : State) : State :=
  if s.isStabled then tryWake .consistFrame s
  else if f.acceptable then actOnFrame f.clamped e s
  else s

/-- The partner timer expires (R192). -/
def partnerLost (s : State) : State :=
  let s1 := s.withConsist { s.consist with timer := none }
  match s.consist.state with
  | .joining => toSingle s1
  | .coupled => if s.speed.standstill then toSingle (moveConsist .severed s1)
      else setSource .consist (moveConsist .severed s1)
  | .conflict => if s.speed.standstill then toSingle (moveConsist .severed s1)
      else setSource .consist (moveConsist .severed s1)
  | .mismatch => if s.speed.standstill then toSingle (moveConsist .severed s1)
      else setSource .consist (moveConsist .severed s1)
  | .single => s
  | .severed => s

/-- A SEVERED part becomes SINGLE at standstill (R193). -/
def severedPeriod (s : State) : State :=
  if s.consist.state = .severed ∧ s.speed.standstill then toSingle s else s

end Sys2Proof.Machine
end

