-- ==== Sys2Proof/Machine/Operands.lean ====
section
/-!
DEFINITION. The codes and layouts of section 10.10: fields of commands and of cyclic frames as they are read, result data,
trip event entries and the pages of the frames the part sends.
-/

namespace Sys2Proof.Machine

/-! ### Fields read (section 10.10) -/

/-- The lever byte of a CAB STATE frame: 0x80 is E, any other a signed value (R200). -/
def leverOf (b : Byte) : Lever := if b = 0x80 then .emergency else .number b.toInt

/-- LEFT 1, RIGHT 2; true is RIGHT. -/
def sideOf (b : Byte) : Option Bool :=
  match b.toNat with
  | 1 => some false
  | 2 => some true
  | _ => none

/-- LEFT 1, STRAIGHT 2, RIGHT 3. -/
def legOf (b : Byte) : Option Leg :=
  match b.toNat with
  | 1 => some .left
  | 2 => some .straight
  | 3 => some .right
  | _ => none

/-- Line class: OFF 0, STANDARD 1, ASSIST 2. -/
def lineClassOf (b : Byte) : Option LineClass :=
  match b.toNat with
  | 0 => some .off
  | 1 => some .standard
  | 2 => some .assist
  | _ => none

/-- Pattern repeat: HELD 0, else 1 to 15. -/
def repeatOf (b : Byte) : Option Repeat :=
  if b.toNat = 0 then some .held else if b.toNat ≤ 15 then some (.times b.toNat) else none

/-- Sound step: OFF 0, tone 1 to 7, ON 8. -/
def stepOf (b : Byte) : Option StepOutput :=
  if b.toNat = 0 then some .off else if b.toNat ≤ 7 then some (.tone b.toNat)
  else if b.toNat = 8 then some .on else none

/-- Band edge: OFF 0, RISING 1, FALLING 2, BOTH 3. -/
def edgeOf (b : Byte) : Option Edge :=
  match b.toNat with
  | 0 => some .off
  | 1 => some .rising
  | 2 => some .falling
  | 3 => some .both
  | _ => none

/-- Sound channel: BELL 0 to BUZZER_B 4. -/
def speakerOf (b : Byte) : Option Speaker :=
  match b.toNat with
  | 0 => some .bell
  | 1 => some .horn
  | 2 => some .chime
  | 3 => some .buzzerA
  | 4 => some .buzzerB
  | _ => none

/-- A pattern number 0 to 15. -/
def patternOf (b : Byte) : Option (Fin 16) :=
  if h : b.toNat < 16 then some ⟨b.toNat, h⟩ else none

/-- A pattern number 0 to 15, or NONE 0xFF. -/
def patternOrNone (b : Byte) : Option (Option (Fin 16)) :=
  if b = 0xFF then some none else (patternOf b).map some

/-- A configurable source: JR 0, JQ 1, SP 2; VX and any other are refused (R130). -/
def sourceOf (b : Byte) : Option Source :=
  match b.toNat with
  | 0 => some .jr
  | 1 => some .jq
  | 2 => some .sp
  | _ => none

/-- Vigilance action: WARN_ONLY 0, BRAKE 1. -/
def actionOf (b : Byte) : Option VigilanceAction :=
  match b.toNat with
  | 0 => some .warnOnly
  | 1 => some .brake
  | _ => none

/-- End: none 0, A 1, B 2. -/
def endOf : Nat → Option (Option End)
  | 0 => some none
  | 1 => some (some .a)
  | 2 => some (some .b)
  | _ => none

/-- Authority state: DARK 0 to STABLED 5. -/
def authStateOf : Nat → Option AuthState
  | 0 => some .dark
  | 1 => some .claiming
  | 2 => some .active
  | 3 => some .parked
  | 4 => some .remote
  | 5 => some .stabled
  | _ => none

/-- The authority byte read. -/
def authorityOf (b : Byte) : Option ShownAuthority :=
  match authStateOf (b.toNat % 8), endOf (b.toNat / 8 % 4), endOf (b.toNat / 32 % 4) with
  | some st, some active, some parked => some ⟨st, active, parked⟩
  | _, _, _ => none

/-- Stop state: NONE 0 to DEPARTING 3, in two bits. -/
def phaseOf (n : Nat) : Phase :=
  match n % 4 with
  | 0 => .none
  | 1 => .requested
  | 2 => .atStop
  | _ => .departing

/-- A forwarded press: empty 0, STANDARD 1, ASSIST 2. -/
def pressOf : Nat → Option (Option PressClass)
  | 0 => some none
  | 1 => some (some .standard)
  | 2 => some (some .assist)
  | _ => none

/-- The two bits of door `d` in the forwarded presses. -/
def pressBits (w : Word16) (d : Nat) : Nat := w.toNat / 4 ^ d % 4

/-- The forwarded presses read: two bits for each door, door 0 lowest (log 15). -/
def pressesOf (w : Word16) : Option (Vector (Option PressClass) 8) :=
  if (List.range 8).all fun d => (pressOf (pressBits w d)).isSome then
    some (Vector.ofFn fun d : Fin 8 => (pressOf (pressBits w d.val)).getD none)
  else none

/-- The listed bits of a source set; the others are ignored (log 14). -/
def sourceMask : Word16 := 0x03FF

/-- Whether a flag set names the unused bit 15. -/
def namesUnused (w : Word16) : Bool := w.getLsbD 15

/-- The stop block of a consist frame read from its bytes, door n at bit n of the set: DESIGN CHOICE (log 49). -/
def stopBlockOf (stop : Byte) (doors : Word16) : StopBlock :=
  ⟨phaseOf stop.toNat, doors, stop.getLsbD 2, stop.getLsbD 4, stop.getLsbD 5⟩

/-- The two pages of a CONSIST frame read (section 10.10); none for a wrong length or an undefined code. -/
def consistOf (page0 page1 : List Byte) : Option ConsistFrame :=
  match page0, page1 with
  | [_, v1, v0, rank, l1, l0, auth, bits, rk, divisor, c1, c0],
    [_, s1, s0, stop, d1, d0, claim, intent, answer, q1, q0] =>
    match authorityOf auth, endOf (bits.toNat % 4), pressesOf (word16 q1 q0) with
    | some a, some coupled, some presses => some {
        vehicle := (word16 v1 v0).toNat
        rank := rank.toNat
        length := (word16 l1 l0).toNat
        coupledEnd := coupled
        authority := a
        rk := rk.toInt
        divisor := divisor.toNat
        ceiling := (word16 c1 c0).toNat
        holding := bits.getLsbD 4
        ownSources := word16 s1 s0 &&& sourceMask
        standstill := bits.getLsbD 2
        stopBlock := if bits.getLsbD 5 then some (stopBlockOf stop (word16 d1 d0)) else none
        presses := if bits.getLsbD 6 then some presses else none
        manualBell := bits.getLsbD 3
        intent := if claim.getLsbD 0 then some intent else none
        answer := if claim.getLsbD 2 then some (answer, claim.getLsbD 3) else none }
    | _, _, _ => none
  | _, _ => none

/-- A page 0 and a page 1 of zeros, to judge the other page alone. -/
def blankPage0 : List Byte := [2, 0, 0, 0, 0, 0, 0, 0, 0, 0, 0, 0]

/-- A page 1 of zeros. -/
def blankPage1 : List Byte := [0x12, 0, 0, 0, 0, 0, 0, 0, 0, 0, 0]

/-- Whether a page 0 has its length and only defined codes (R196). -/
def page0Defined (page : List Byte) : Bool := (consistOf page blankPage1).isSome

/-- Whether a page 1 has its length and only defined codes (R196). -/
def page1Defined (page : List Byte) : Bool := (consistOf blankPage0 page).isSome

/-! ### Codes written -/

/-- Two bytes, high byte first. -/
def bytes2 (n : Nat) : List Byte := [BitVec.ofNat 8 (n / 256), BitVec.ofNat 8 n]

/-- Two bytes of a 16-bit set, high byte first. -/
def bytesOfWord (w : Word16) : List Byte := [hiByte w, loByte w]

/-- Three bytes of a 24-bit counter, high byte first. -/
def bytes3 (c : Count24) : List Byte := [c.extractLsb' 16 8, c.extractLsb' 8 8, c.extractLsb' 0 8]

/-- One byte. -/
def byteOf (n : Nat) : Byte := BitVec.ofNat 8 n

/-- The two bytes of a signed value. -/
def bytesOfInt (i : Int) : List Byte := bytesOfWord (BitVec.ofInt 16 i)

/-- A bit as a number at its place. -/
def bitAt (b : Bool) (place : Nat) : Nat := if b then 2 ^ place else 0

/-- The code of an end. -/
def endCode : Option End → Nat
  | none => 0
  | some .a => 1
  | some .b => 2

/-- The code of an authority state. -/
def AuthState.code : AuthState → Nat
  | .dark => 0
  | .claiming => 1
  | .active => 2
  | .parked => 3
  | .remote => 4
  | .stabled => 5

/-- The authority byte written. -/
def authorityByte (a : ShownAuthority) : Byte :=
  byteOf (a.state.code + 8 * endCode a.activeEnd + 32 * endCode a.parkedEnd)

/-- The code of a leg, none 0. -/
def legCode : Option Leg → Nat
  | none => 0
  | some .left => 1
  | some .straight => 2
  | some .right => 3

/-- The code of a position. -/
def positionCode : Position → Nat
  | .left => 1
  | .straight => 2
  | .right => 3
  | .moving => 4

/-- The code of a lock. -/
def lockCode : Lock → Nat
  | .free => 0
  | .lockedFor _ => 1
  | .occupied => 2

/-- The vehicle a lock names, 0 unless LOCKED_FOR. -/
def lockVehicle : Lock → Nat
  | .free => 0
  | .lockedFor v => v
  | .occupied => 0

/-- The position and lock byte of a POINT_REPORT. -/
def positionLockByte (pos : Position) (lock : Lock) : Byte := byteOf (positionCode pos + 16 * lockCode lock)

/-- The code of a port. -/
def portCode : Port → Nat
  | .ca => 0
  | .cb => 1
  | .vl => 2
  | .kl => 3

/-- The code of an axle channel. -/
def axleCode : Axle → Nat
  | .t1 => 0
  | .t2 => 1
  | .m1 => 2
  | .m2 => 3

/-- The code of a fault cause. -/
def FaultCause.code : FaultCause → Nat
  | .zero => 1
  | .open => 2

/-- The code of a vigilance action. -/
def VigilanceAction.code : VigilanceAction → Nat
  | .warnOnly => 0
  | .brake => 1

/-- The code of a press class, as a line class. -/
def PressClass.code : PressClass → Nat
  | .standard => 1
  | .assist => 2

/-- The code of a consist state. -/
def ConsistState.code : ConsistState → Nat
  | .single => 0
  | .joining => 1
  | .coupled => 2
  | .conflict => 3
  | .mismatch => 4
  | .severed => 5

/-- The code of a role, none 0. -/
def roleCode : Option Role → Nat
  | none => 0
  | some .lead => 1
  | some .trail => 2
  | some .neutral => 3

/-- The code of a stop state. -/
def Phase.code : Phase → Nat
  | .none => 0
  | .requested => 1
  | .atStop => 2
  | .departing => 3

/-- The code of a refusal reason (R203). -/
def Reason.code : Reason → Nat
  | .unknownKind => 1
  | .notPermitted => 2
  | .badField => 3
  | .notActive => 4
  | .noKey => 5
  | .link => 6
  | .moving => 7
  | .heldByOther => 8
  | .remote => 9
  | .busy => 10
  | .lostTie => 11
  | .noPartner => 12
  | .consistFault => 13
  | .stabled => 14
  | .notDark => 15
  | .keyOn => 16
  | .full => 17
  | .empty => 18
  | .locked => 19
  | .onPoint => 20
  | .nothing => 21
  | .held => 22
  | .retry => 23
  | .sourceActive => 24
  | .lever => 25
  | .assistPending => 26
  | .lockedSetting => 27

/-- The code of an origin. -/
def Origin.code : Origin → Nat
  | .owner => 0
  | .port => 1

/-- The code of a wake source. -/
def WakeSource.code : WakeSource → Nat
  | .key .a => 1
  | .key .b => 2
  | .command => 3
  | .consistFrame => 4
  | .doorLoop => 5
  | .passengerLoop => 6
  | .press => 7

/-- The code of a cause of a dropped priority request. -/
def DropCause.code : DropCause → Nat
  | .full => 0
  | .replaced => 1
  | .handover => 2

/-- First source: bit number + 1, or 0 for none. -/
def sourceCode : Option EmergencySource → Nat
  | none => 0
  | some src => src.bit + 1

/-- The code of a placement (SOUND TEST). -/
def Placement.code : Placement → Nat
  | .playing => 0
  | .waiting => 1
  | .dropped => 2

/-- The code of a trip event kind. -/
def TripEvent.code : TripEvent → Nat
  | .authorityChanged _ _ => 0x01
  | .woken _ => 0x02
  | .linkChanged _ _ => 0x03
  | .consistChanged _ _ _ => 0x04
  | .channelFaulted _ _ => 0x10
  | .channelHealthy _ => 0x11
  | .speedBand _ _ _ => 0x12
  | .overspeed _ _ => 0x13
  | .slip _ _ => 0x14
  | .emergencyApplied _ => 0x20
  | .emergencyAdded _ => 0x21
  | .emergencyReleased _ => 0x22
  | .derate _ => 0x23
  | .vigilancePenalty _ => 0x24
  | .junctionRequested _ _ => 0x30
  | .junctionUnplanned _ => 0x31
  | .junctionLocked _ => 0x32
  | .lockLost _ _ _ => 0x33
  | .junctionMismatch _ _ _ => 0x34
  | .junctionNoReport _ => 0x35
  | .junctionOverrun _ _ => 0x36
  | .permitUsed _ => 0x37
  | .junctionPassed _ _ => 0x38
  | .junctionCancelled _ => 0x39
  | .cancelDropped _ => 0x3A
  | .junctionSkipped _ => 0x3B
  | .tableFull _ => 0x3C
  | .entryUnmatched _ => 0x3D
  | .priorityRequested _ _ => 0x40
  | .priorityHeld _ _ => 0x41
  | .priorityDropped _ _ => 0x42
  | .priorityGranted _ => 0x43
  | .stopRequested _ _ => 0x50
  | .assistRequested _ => 0x51
  | .doorsReleased _ => 0x52
  | .doorsClosed => 0x53
  | .doorOpenMoving => 0x54
  | .buttonStuck _ _ => 0x55

/-- The named detail bytes of a trip event. The source of EMERGENCY_APPLIED and EMERGENCY_ADDED is coded as the first source is,
its bit number + 1: DESIGN CHOICE (log 52); that of EMERGENCY_RELEASED is the first source itself (R74): DEDUCED (log 52). -/
def TripEvent.detail : TripEvent → List Byte
  | .authorityChanged shown claimant => [authorityByte shown, byteOf (endCode claimant)]
  | .woken src => [byteOf src.code, byteOf src.level]
  | .linkChanged p up => [byteOf (portCode p), byteOf (bitAt up 0)]
  | .consistChanged st role n => [byteOf st.code, byteOf (roleCode role)] ++ bytes2 n
  | .channelFaulted c cause => [byteOf (axleCode c), byteOf cause.code]
  | .channelHealthy c => [byteOf (axleCode c)]
  | .speedBand m rising v => [byteOf m.val, byteOf (if rising then 1 else 2)] ++ bytes2 v
  | .overspeed c v => bytes2 c ++ bytes2 v
  | .slip slide n => byteOf (bitAt slide 0) :: bytes2 n
  | .emergencyApplied src => [byteOf (sourceCode (some src))]
  | .emergencyAdded src => [byteOf (sourceCode (some src))]
  | .emergencyReleased src => [byteOf (sourceCode src)]
  | .derate d => [byteOf d]
  | .vigilancePenalty a => [byteOf a.code]
  | .junctionRequested j leg => bytes2 j ++ [byteOf (legCode leg)]
  | .junctionUnplanned j => bytes2 j
  | .junctionLocked j => bytes2 j
  | .lockLost j pos lock => bytes2 j ++ [positionLockByte pos lock]
  | .junctionMismatch j pos lock => bytes2 j ++ [positionLockByte pos lock]
  | .junctionNoReport j => bytes2 j
  | .junctionOverrun j st => bytes2 j ++ [st]
  | .permitUsed j => bytes2 j
  | .junctionPassed j leg => bytes2 j ++ [byteOf (legCode leg)]
  | .junctionCancelled j => bytes2 j
  | .cancelDropped j => bytes2 j
  | .junctionSkipped j => bytes2 j
  | .tableFull j => bytes2 j
  | .entryUnmatched j => bytes2 j
  | .priorityRequested k c => bytes2 k ++ [byteOf c]
  | .priorityHeld k c => bytes2 k ++ [byteOf c]
  | .priorityDropped k cause => bytes2 k ++ [byteOf cause.code]
  | .priorityGranted k => bytes2 k
  | .stopRequested d c => [byteOf d, byteOf c.code]
  | .assistRequested d => [byteOf d]
  | .doorsReleased side2 => [byteOf (if side2 then 2 else 1)]
  | .doorsClosed => []
  | .doorOpenMoving => []
  | .buttonStuck line door => [byteOf line.val, byteOf door.val]

/-- The four detail bytes: those named, then zeros. -/
def detailBytes (e : TripEvent) : List Byte := (e.detail ++ [0, 0, 0, 0]).take 4

/-- The 11 bytes of a trip event entry (section 10.10). -/
def EventEntry.bytes (e : EventEntry) : List Byte :=
  [byteOf (e.event.code + bitAt e.gap 7)] ++ bytes3 e.timestamp ++ bytes3 e.odometer ++ detailBytes e.event

/-- The result data of ENQUIRE POINT: junction, report and age (section 10.10). -/
def enquiryData (j : Nat) (r : Report) : List Byte :=
  bytes2 j ++ [positionLockByte r.position r.lock] ++ bytes2 (lockVehicle r.lock) ++ bytes2 r.age

/-! ### Frames sent -/

/-- The stop byte: state, assist, early press, LEFT and RIGHT (CAB DISPLAY page 2, CONSIST page 1). -/
def stopByte (phase : Phase) (assist early left right : Bool) : Byte :=
  byteOf (phase.code + bitAt assist 2 + bitAt early 3 + bitAt left 4 + bitAt right 5)

/-- The code of a forwarded press. -/
def pressCode : Option PressClass → Nat
  | none => 0
  | some c => c.code

/-- The forwarded presses written, door 0 lowest (log 15). -/
def pressWord (p : Vector (Option PressClass) 8) : Nat :=
  ((List.range 8).map fun d => pressCode ((p[d]?).getD none) * 4 ^ d).sum

/-- Page 0 of a CONSIST frame. -/
def consistPage0 (f : ConsistFrame) : List Byte :=
  ([0x02] : List Byte) ++ bytes2 f.vehicle ++ [byteOf f.rank] ++ bytes2 f.length ++
  [authorityByte f.authority,
   byteOf (endCode f.coupledEnd + bitAt f.standstill 2 + bitAt f.manualBell 3 + bitAt f.holding 4 +
     bitAt f.stopBlock.isSome 5 + bitAt f.presses.isSome 6),
   BitVec.ofInt 8 f.rk, byteOf f.divisor] ++ bytes2 f.ceiling

/-- The stop bytes of a CONSIST frame, zeros without a stop block (log 15); door n at bit n of the set: DESIGN CHOICE (log 49). -/
def stopBlockBytes : Option StopBlock → List Byte
  | some b => stopByte b.phase b.assist false b.left b.right :: bytesOfWord b.doors
  | none => [0, 0, 0]

/-- Page 1 of a CONSIST frame; absent items are zeros (log 15). -/
def consistPage1 (f : ConsistFrame) : List Byte :=
  ([0x12] : List Byte) ++ bytesOfWord f.ownSources ++ stopBlockBytes f.stopBlock ++
  [byteOf (bitAt f.intent.isSome 0 + bitAt f.answer.isSome 2 +
     bitAt (match f.answer with
       | some (_, granted) => granted
       | none => false) 3),
   f.intent.getD 0, (f.answer.map Prod.fst).getD 0] ++
  bytes2 (match f.presses with
    | some p => pressWord p
    | none => 0)

/-- The payload of the demand frame (R65). -/
def DemandFrame.payload (f : DemandFrame) : List Byte :=
  [BitVec.ofInt 8 f.demand,
   byteOf (bitAt f.emerg 0 + bitAt f.overspeed 1 + bitAt f.sand 2 + 16 * f.divisor),
   authorityByte f.authority]

/-- The demand frame on the traction demand line. -/
def DemandFrame.wire (f : DemandFrame) : List Byte := linkFrame 0x60 f.tag f.payload

/-- The code of a record state as a number. -/
def recordByte (r : RecordView) : Byte :=
  byteOf (legCode r.leg + 4 * r.state.code.toNat + bitAt r.permit 5)

/-- The enquiry slot's state and junction. -/
def enquiryBytes : Enquiry → List Byte
  | .free => 0 :: bytes2 0
  | .waiting j _ => 1 :: bytes2 j
  | .ready j _ _ => 2 :: bytes2 j

/-- The pages of a CAB DISPLAY frame (section 10.10). Door n stands at bit n of the door-request set: DESIGN CHOICE (log 49). -/
def CabDisplay.pages (f : CabDisplay) : List (List Byte) := [
  [0x04, authorityByte f.authority] ++ bytes2 f.vRef ++
    [byteOf (bitAt f.standstill 0 + bitAt f.interlock 1 + bitAt f.holding 2 + bitAt f.buzzer 3),
     byteOf (sourceCode f.first)] ++ bytesOfWord f.unresolved ++ [byteOf f.divisor] ++ bytes2 f.cj,
  [0x14] ++ (match f.nearest with
      | some r => bytes2 r.junction ++ [recordByte r] ++ bytesOfInt (r.r.getD 0)
      | none => [0, 0, 0, 0, 0]) ++
    [byteOf (legCode f.pendingLeg + bitAt f.pendingPermit 2)] ++ enquiryBytes f.enquiry,
  [0x24, stopByte f.phase f.assist f.earlyPress f.left f.right] ++ bytesOfWord f.doors ++
    bytes2 (f.heldCrossing.getD 0) ++ bytes2 ((f.acked.map Prod.fst).getD 0) ++
    bytes2 ((f.acked.map Prod.snd).getD 0),
  [0x34, byteOf (f.consist.code + 8 * roleCode f.role)] ++ bytes2 ((f.partner.map Prod.fst).getD 0) ++
    [match f.partnerShows with
      | some (st, standstill) => byteOf (st.code + bitAt standstill 3)
      | none => 0]]

/-! ### VEHICLE REPORT pages

Section 10.10 lists the items of each byte. Where it names the bits as well (the authority byte, whole bytes and numbers) they
stand as named. The stop byte takes the bits of the other frames' stop byte (log 50), and the sets of doors and lines have door or
line n at bit n (log 49). Every other byte is a free value of its items (log 15). -/

/-- The code of a channel's health, with the codes of the fault causes. -/
def healthCode : HealthView → Nat
  | none => 0
  | some cause => cause.code

/-- The code of the reference channel, none 4. -/
def referenceCode : Option Axle → Nat
  | none => 4
  | some c => axleCode c

/-- The code of a bit. -/
def bitCode (b : Bool) : Nat := bitAt b 0

/-- State, cause of the vigilance monitor. -/
def vigilCodes : Vigil → List Nat
  | .quiet _ => [0, 0]
  | .warningHold _ => [1, 1]
  | .warningTime _ => [1, 2]
  | .penalty => [2, 0]

/-- The code of a source queue. -/
def Source.code : Source → Nat
  | .jr => 0
  | .jq => 1
  | .sp => 2
  | .vx => 3

/-- The code of a sound source. -/
def SoundSource.code : SoundSource → Nat
  | .manualBell => 1
  | .manualHorn => 2
  | .stopChime => 3
  | .assistChime => 4
  | .departChime => 5
  | .vigilanceWarn => 6
  | .pointWarn => 7
  | .emergency => 8
  | .speedBand => 9
  | .mirror => 10
  | .test => 11

/-- The code of a sound output or step. -/
def StepOutput.code : StepOutput → Nat
  | .off => 0
  | .tone n => n
  | .on => 8

/-- Transmitter state, source and telegram kind. -/
def transmitterCodes : Option (Source × Byte) → List Nat
  | none => [0, 0, 0]
  | some (source, kind) => [1, source.code, kind.toNat]

/-- Source and pattern of a waiting entry; source none is 0. -/
def waitingCodes : Option (SoundSource × Fin 16) → List Nat
  | none => [0, 0]
  | some (source, pattern) => [source.code, pattern.val]

/-- The items of a report for which the layout names no place: the flag set (R209), and of the stop state the close odometer, the
early doors and the early assist (R161). -/
def VehicleReport.unplaced (f : VehicleReport) : List Nat :=
  [f.flags.toNat, f.stop.closeOdo.elim 0 (·.toNat + 1), f.stop.earlyDoors.toNat, bitCode f.stop.earlyAssist]

/-- A byte whose bits the layout leaves open (logs 15, 43, 47). -/
def VehicleReport.openByte (f : VehicleReport) (page place : Nat) (items : List Nat) : Byte :=
  Config.reportByte page place (items ++ f.unplaced)

/-- The five bytes of a record of the junction table, zeros where there is none. -/
def VehicleReport.recordBytes (f : VehicleReport) (page place : Nat) : Option RecordView → List Byte
  | none => [0, 0, 0, 0, 0]
  | some r => bytes2 r.junction ++
      [f.openByte page (place + 2) [legCode r.leg, r.state.code.toNat, bitCode r.permit]] ++ bytesOfInt (r.r.getD 0)

/-- The two bytes of a playing channel: source and pattern, step and output. -/
def VehicleReport.playingBytes (f : VehicleReport) (place : Nat) (v : ChannelView) : List Byte :=
  [f.openByte 7 place (waitingCodes (v.playing.map fun (source, pattern, _) => (source, pattern))),
   f.openByte 7 (place + 1) [(v.playing.map fun (_, _, step) => step).getD 0, v.output.code]]

/-- The three bytes of a waiting list. -/
def VehicleReport.waitingBytes (f : VehicleReport) (page place : Nat) (v : ChannelView) : List Byte :=
  [f.openByte page place (waitingCodes v.waiting[0]?), f.openByte page (place + 1) (waitingCodes v.waiting[1]?),
   f.openByte page (place + 2) (waitingCodes v.waiting[2]?)]

/-- The pages of a VEHICLE REPORT frame (R199, section 10.10). Of the stop state (R161) the close odometer, the early doors and the
early assist are fields of the report without a byte of their own, as page 6 names none: DESIGN CHOICE (log 47). On page 6 side 1
stands at bit 4 and side 2 at bit 5 of the stop byte: DESIGN CHOICE (log 50). Door n stands at bit n of the door-request set and
of the auto-open byte, and line n at bit n of the STUCK lines: DESIGN CHOICE (log 49). -/
def VehicleReport.pages (f : VehicleReport) : List (List Byte) := [
  [0x0B, authorityByte f.authority, BitVec.ofInt 8 f.demand] ++ bytes2 f.vRef ++
    [f.openByte 0 5 [referenceCode f.reference, bitCode f.standstill],
     f.openByte 0 6 [healthCode f.health.t1, healthCode f.health.t2, healthCode f.health.m1, healthCode f.health.m2]] ++
    bytes3 f.odometer ++
    [f.openByte 0 10 [bitCode f.links.ca, bitCode f.links.cb, bitCode f.links.vl, bitCode f.links.kl]],
  [0x1B, f.openByte 1 1 [bitCode (decide (f.recorded ≠ 0)), sourceCode f.first, bitCode f.commandHold,
      bitCode f.lineState, bitCode f.armed]] ++ bytesOfWord f.recorded ++
    [byteOf f.divisor,
     f.openByte 1 5 [f.demands.sensor.getD 0, f.demands.reference.getD 0, f.demands.adhesion.getD 0],
     byteOf (f.demands.vehicle.getD 0), byteOf (f.demands.partner.getD 0),
     f.openByte 1 8 (vigilCodes f.vigil ++ [f.action.code, bitCode f.locked])] ++ bytes2 f.lineCeiling,
  [0x2B, byteOf f.planCount] ++ bytes2 (f.planHead.getD 0) ++ bytes2 (f.overflow.getD 0) ++
    [f.openByte 2 6 [bitCode f.tableFull, f.records.length]] ++ bytes2 f.cj ++ [byteOf f.eventCount],
  [0x3B] ++ f.recordBytes 3 1 f.records[0]? ++ f.recordBytes 3 6 f.records[1]?,
  [0x4B] ++ f.recordBytes 4 1 f.records[2]? ++ f.recordBytes 4 6 f.records[3]?,
  [0x5B, f.openByte 5 1 [f.queueCounts.1, f.queueCounts.2.1, f.queueCounts.2.2.1, f.queueCounts.2.2.2],
    f.openByte 5 2 [f.queueCounts.1, f.queueCounts.2.1, f.queueCounts.2.2.1, f.queueCounts.2.2.2],
    f.openByte 5 3 (transmitterCodes f.sending),
    f.openByte 5 4 [bitCode f.levels.jr, bitCode f.levels.jq, bitCode f.levels.sp, f.priorityClass]] ++
    bytes2 (f.heldCrossing.getD 0) ++ bytes2 (f.acked.getD 0),
  [0x6B, stopByte f.stop.phase f.stop.assist f.stop.earlyPress f.stop.side1 f.stop.side2] ++ bytesOfWord f.stop.doors ++
    [f.openByte 6 4 [bitCode f.doorClosed, bitCode f.enable1, bitCode f.enable2, bitCode f.sign, bitCode f.interlock],
     f.autoOpen, f.stuck.extractLsb' 24 8, f.stuck.extractLsb' 16 8, f.stuck.extractLsb' 8 8, f.stuck.extractLsb' 0 8],
  [0x7B] ++ f.playingBytes 1 f.channels.bell ++ f.playingBytes 3 f.channels.horn ++ f.playingBytes 5 f.channels.chime ++
    f.playingBytes 7 f.channels.buzzerA ++ f.playingBytes 9 f.channels.buzzerB ++
    [f.openByte 7 11 [bitCode f.quiet, bitCode f.forcedOff]],
  [0x8B] ++ f.waitingBytes 8 1 f.channels.bell ++ f.waitingBytes 8 4 f.channels.horn ++
    f.waitingBytes 8 7 f.channels.chime,
  [0x9B] ++ f.waitingBytes 9 1 f.channels.buzzerA ++ f.waitingBytes 9 4 f.channels.buzzerB ++
    [f.openByte 9 7 [bitCode f.partnerHolding]] ++ bytesOfWord f.partnerSources,
  [0xAB, f.openByte 10 1 [f.consist.code, roleCode f.role, f.joinCount, endCode f.coupledEnd, endCode f.facingEnd],
    f.openByte 10 2 [f.consist.code, roleCode f.role, f.joinCount, endCode f.coupledEnd, endCode f.facingEnd]] ++
    bytes2 ((f.partner.map Prod.fst).getD 0) ++ [byteOf ((f.partner.map Prod.snd).getD 0)] ++ bytes2 f.length ++
    [BitVec.ofInt 8 f.partnerRk, byteOf f.partnerDivisor] ++ bytes2 f.partnerCeiling]

/-- The code of a telegram kind. -/
def Telegram.kind : Telegram → Byte
  | .pointRequest _ _ _ => 0x31
  | .pointCancel _ _ => 0x32
  | .statusQuery _ _ => 0x33
  | .priorityRequest _ _ _ => 0x34
  | .service _ _ => 0x35

/-- A telegram as the radio sends it (sections 6.2, 10.10). -/
def Telegram.wire (t : Telegram) : List Byte :=
  match t with
  | .pointRequest j v leg => waysideFrame t.kind j (bytes2 v ++ [byteOf (legCode (some leg))])
  | .pointCancel j v => waysideFrame t.kind j (bytes2 v)
  | .statusQuery j v => waysideFrame t.kind j (bytes2 v)
  | .priorityRequest k v c => waysideFrame t.kind k (bytes2 v ++ [byteOf c])
  | .service v bytes => waysideFrame t.kind 1 (bytes2 v ++ bytes)

/-- The payloads of the link frames of a transmit FIFO entry: one, or the pages of a train (R199, section 10.10). -/
def TxEntry.payloads : TxEntry → List (List Byte)
  | .accepted kind _ data => [kind :: data]
  | .refused kind _ reason origin => [[kind, byteOf reason.code, byteOf origin.code]]
  | .notice flags => [bytesOfWord flags]
  | .display _ f => f.pages
  | .report _ f => f.pages
  | .consist _ f => [consistPage0 f, consistPage1 f]

/-- The KIND of the frames of an entry (section 10.10). -/
def TxEntry.kind : TxEntry → Byte
  | .accepted _ _ _ => 0x50
  | .refused _ _ _ _ => 0x51
  | .notice _ => 0x42
  | .display _ _ => 0x40
  | .report _ _ => 0x41
  | .consist _ _ => 0x03

/-- The TAG of the frames of an entry; that of a NOTICE is a free value (log 20). -/
def TxEntry.tag : TxEntry → Byte
  | .accepted _ tag _ => tag
  | .refused _ tag _ _ => tag
  | .notice _ => Config.noticeTag
  | .display tag _ => tag
  | .report tag _ => tag
  | .consist tag _ => tag

/-- The link frames of a transmit FIFO entry as they go on the wire, each with its check (R197). -/
def TxEntry.frames (e : TxEntry) : List (List Byte) := e.payloads.map (linkFrame e.kind e.tag)

end Sys2Proof.Machine
end

