-- ==== Sys2Proof/Machine/Speed.lean ====
section
/-!
DEFINITION. The speed unit's period update in its seven stages (chapter 2).
-/

namespace Sys2Proof.Machine

/-! ### Stages 1 and 2 (R25, R27) -/

/-- The closed counts a window keeps (section 2.1). -/
def windowPlaces : Nat := 5

/-- Close the count of a channel: it joins the window as the newest entry, the oldest of six leaves, the count of the new
period starts at 0 and the line is sampled (R25). -/
def AxleChannel.close (closed : Bool) (c : AxleChannel) : AxleChannel :=
  { c with
    window := if c.window.length < windowPlaces then c.window ++ [c.count] else c.window.drop 1 ++ [c.count]
    count := 0
    closed := closed }

/-- The window sum n, at most 1023 (R27). -/
def windowSum (window : List Nat) : Nat := min 1023 window.sum

/-- The channel speed v_ch of a window for a pulse length (R27). -/
def channelSpeed (pulseLength : Nat) (window : List Nat) : Nat :=
  min 1000 (windowSum window * pulseLength * 36 / 10000)

/-- One channel through stages 1 and 2. -/
def AxleChannel.read (pulseLength : Nat) (closed : Bool) (c : AxleChannel) : AxleChannel :=
  { c.close closed with speed := channelSpeed pulseLength (c.close closed).window }

/-- The four channels through stages 1 and 2. -/
def readAxles (closed : PerAxle Bool) (s : State) : State :=
  s.withSpeed { s.speed with
    axles := ⟨s.speed.axles.t1.read s.speed.pulseLength closed.t1, s.speed.axles.t2.read s.speed.pulseLength closed.t2,
      s.speed.axles.m1.read s.speed.pulseLength closed.m1, s.speed.axles.m2.read s.speed.pulseLength closed.m2⟩ }

/-! ### Stage 3 (R28 to R33) -/

/-- The periods of zero run or open run after which a channel faults (R28, R29). -/
def faultRun : Nat := 20

/-- The periods of recovery run after which a channel is healthy again (R30). -/
def recoveryRun : Nat := 250

/-- The largest difference in agreement (R30, R31). -/
def agreement : Nat := 20

/-- Whether a channel is HEALTHY. -/
def AxleChannel.isHealthy (c : AxleChannel) : Bool :=
  match c.health with
  | .healthy _ _ => true
  | .faulted _ _ => false

/-- The channels that satisfy a test, in the order T1, T2, M1, M2. -/
def axlesWhere (axles : PerAxle AxleChannel) (test : AxleChannel → Bool) : List Axle :=
  allAxles.filter fun c => test (axleGet axles c)

/-- The HEALTHY channels in order. -/
def healthyAxles (axles : PerAxle AxleChannel) : List Axle := axlesWhere axles AxleChannel.isHealthy

/-- Whether two speeds agree. -/
def agree (x y : Nat) : Bool := decide (x - y ≤ agreement) && decide (y - x ≤ agreement)

/-- The condition of the zero test for a channel (R28). -/
def zeroMet (axles : PerAxle AxleChannel) (c : Axle) : Bool :=
  decide ((axleGet axles c).speed = 0) &&
    allAxles.any fun o => decide (o ≠ c) && (axleGet axles o).isHealthy && decide (50 ≤ (axleGet axles o).speed)

/-- The recovery test of a FAULTED channel: against v_ref while a channel was healthy (R30), else between channels whose lines
are closed (R31). -/
def recoveryMet (axles : PerAxle AxleChannel) (vRef : Nat) (c : Axle) : Bool :=
  (axleGet axles c).closed &&
    (if (healthyAxles axles).isEmpty then
      allAxles.any fun o => decide (o ≠ c) && (axleGet axles o).closed
        && agree (axleGet axles o).speed (axleGet axles c).speed
    else agree (axleGet axles c).speed vRef)

/-- The health of a channel after stage 3; `axles` holds the health at the start of the stage (R28 to R31). -/
def nextHealth (axles : PerAxle AxleChannel) (vRef : Nat) (c : Axle) : Health :=
  match (axleGet axles c).health with
  | .healthy z o =>
    let z' := if zeroMet axles c then z + 1 else 0
    let o' := if (axleGet axles c).closed then 0 else o + 1
    if faultRun ≤ o' then .faulted .open 0
    else if faultRun ≤ z' then .faulted .zero 0
    else .healthy z' o'
  | .faulted cause r =>
    let r' := if recoveryMet axles vRef c then r + 1 else 0
    if recoveryRun ≤ r' then .healthy 0 0 else .faulted cause r'

/-- CHANNEL_FAULTED for a channel that became FAULTED (R32). -/
def reportFault (before : Health) (c : Axle) (s : State) : State :=
  match before, (axleGet s.speed.axles c).health with
  | .healthy _ _, .faulted cause _ => appendEvent (.channelFaulted c cause) s
  | _, _ => s

/-- CHANNEL_HEALTHY for a channel that became HEALTHY (R32). -/
def reportHealthy (before : Health) (c : Axle) (s : State) : State :=
  match before, (axleGet s.speed.axles c).health with
  | .faulted _ _, .healthy _ _ => appendEvent (.channelHealthy c) s
  | _, _ => s

/-- The SENSOR and REFERENCE demands of the health of the channels (R32). -/
def healthDemands (axles : PerAxle AxleChannel) : Option Nat × Option Nat :=
  match (healthyAxles axles).length with
  | 4 => (none, none)
  | 3 => (some 2, none)
  | _ => if axles.t1.isHealthy || axles.t2.isHealthy then (some 4, none) else (some 4, some 8)

/-- The two demands are handed over together where they changed (R32; log 11). -/
def handHealth (s : State) : State :=
  handIfChanged { s.emerg.demands with
    sensor := (healthDemands s.speed.axles).1
    reference := (healthDemands s.speed.axles).2 } s

/-- The state of the four channels' health as it was. -/
def healthOf (axles : PerAxle AxleChannel) : PerAxle Health :=
  ⟨axles.t1.health, axles.t2.health, axles.m1.health, axles.m2.health⟩

/-- Write the health of the four channels. -/
def writeHealth (h : PerAxle Health) (s : State) : State :=
  s.withSpeed { s.speed with
    axles := ⟨{ s.speed.axles.t1 with health := h.t1 }, { s.speed.axles.t2 with health := h.t2 },
      { s.speed.axles.m1 with health := h.m1 }, { s.speed.axles.m2 with health := h.m2 }⟩ }

/-- Report every change of health from `old`: first the faults, then the recoveries (R32; log 10). -/
def reportHealth (old : PerAxle Health) (s : State) : State :=
  let s1 := allAxles.foldl (fun acc c => reportFault (axleGet old c) c acc) s
  allAxles.foldl (fun acc c => reportHealthy (axleGet old c) c acc) s1

/-- The channels' health changes to `new`, with the events, the demands and the SPEED source that follow (R32, R33). -/
def applyHealth (new : PerAxle Health) (s : State) : State :=
  let s1 := handHealth (reportHealth (healthOf s.speed.axles) (writeHealth new s))
  if !(healthyAxles s.speed.axles).isEmpty && (healthyAxles s1.speed.axles).isEmpty then setSource .speed s1
  else s1

/-- Stage 3 of the period update. -/
def healthStage (s : State) : State :=
  applyHealth ⟨nextHealth s.speed.axles s.speed.vRef .t1, nextHealth s.speed.axles s.speed.vRef .t2,
    nextHealth s.speed.axles s.speed.vRef .m1, nextHealth s.speed.axles s.speed.vRef .m2⟩ s

/-! ### Stage 4 (R34, R35) -/

/-- The channel of a list with the largest speed, the first of equals. -/
def fastest (axles : PerAxle AxleChannel) : List Axle → Option Axle
  | [] => none
  | c :: cs =>
    match fastest axles cs with
    | some o => if (axleGet axles c).speed < (axleGet axles o).speed then some o else some c
    | none => some c

/-- The channel of a list with the smallest speed, the first of equals. -/
def slowest (axles : PerAxle AxleChannel) : List Axle → Option Axle
  | [] => none
  | c :: cs =>
    match slowest axles cs with
    | some o => if (axleGet axles o).speed < (axleGet axles c).speed then some o else some c
    | none => some c

/-- Whether a channel is on the unmotored centre bogie. -/
def isT : Axle → Bool
  | .t1 => true
  | .t2 => true
  | .m1 => false
  | .m2 => false

/-- The reference channel for a sign of O_prev (R34, R35). -/
def chooseReference (axles : PerAxle AxleChannel) (prev : Int) : Option Axle :=
  if ((healthyAxles axles).filter isT).isEmpty then
    if 0 ≤ prev then slowest axles (healthyAxles axles) else fastest axles (healthyAxles axles)
  else if 0 ≤ prev then fastest axles ((healthyAxles axles).filter isT)
  else fastest axles (healthyAxles axles)

/-- Stage 4 of the period update. -/
def referenceStage (s : State) : State :=
  match chooseReference s.speed.axles s.shaper.prev with
  | some c => s.withSpeed { s.speed with reference := some c, vRef := (axleGet s.speed.axles c).speed }
  | none => s.withSpeed { s.speed with reference := none }

/-! ### Stage 5 (R36) -/

/-- The low run after which standstill holds, in periods (R36). -/
def standstillRun : Nat := 25

/-- The low run increases by one; standstill holds at its end (R36). -/
def lowPeriod (s : State) : State :=
  s.withSpeed { s.speed with
    lowRun := min standstillRun (s.speed.lowRun + 1)
    standstill := decide (standstillRun ≤ s.speed.lowRun + 1) }

/-- Stage 5 of the period update. -/
def standstillStage (s : State) : State :=
  if s.speed.reference.isSome && decide (s.speed.vRef < 5) then lowPeriod s
  else s.withSpeed { s.speed with lowRun := 0, standstill := false }

/-! ### Stage 6 (R37, R38) -/

/-- The count of the period just closed. -/
def AxleChannel.lastCount (c : AxleChannel) : Nat := c.window.getLastD 0

/-- The travel of a decimetre in 0.01 mm (R37). -/
def decimetre : Nat := 10000

/-- Stage 6 of the period update. -/
def odometerStage (s : State) : State :=
  match s.speed.reference with
  | some c =>
    s.withSpeed { s.speed with
      odometer := s.speed.odometer + BitVec.ofNat 24
        ((s.speed.remainder + (axleGet s.speed.axles c).lastCount * s.speed.pulseLength) / decimetre)
      remainder := (s.speed.remainder + (axleGet s.speed.axles c).lastCount * s.speed.pulseLength) % decimetre }
  | none => s

/-! ### Stage 7 (R39, R40) -/

/-- Whether v_ref stands at or above the rising threshold (R39). -/
def Monitor.rises (m : Monitor) (vRef : Nat) : Bool := decide (m.threshold + 5 ≤ vRef)

/-- The state of a monitor after an evaluation (R39). -/
def Monitor.after (m : Monitor) (vRef : Nat) : Bool :=
  if m.above then decide (m.threshold ≤ vRef) else m.rises vRef

/-- Whether an edge selects a crossing; `rising` is its direction (R40). -/
def Edge.selects : Edge → Bool → Bool
  | .off, _ => false
  | .rising, r => r
  | .falling, r => !r
  | .both, _ => true

/-- The linked pattern of a monitor is requested where the record is ACTIVE (R40). -/
def requestBand (m : Monitor) (s : State) : State :=
  match m.pattern, s.activeEnd with
  | some p, some e => requestSound (endBuzzer e) .speedBand p false s
  | _, _ => s

/-- One monitor is evaluated (R39, R40). -/
def evaluateMonitor (i : Fin 4) (s : State) : State :=
  let m := s.speed.monitors[i]
  let s1 := s.withSpeed { s.speed with
    monitors := s.speed.monitors.set i { m with above := m.after s.speed.vRef } }
  if m.after s.speed.vRef ≠ m.above ∧ m.edge.selects (m.after s.speed.vRef) then
    requestBand m (appendEvent (.speedBand i (m.after s.speed.vRef) s.speed.vRef) (raiseFlag (.band i) s1))
  else s1

/-- Stage 7 of the period update. Monitors that cross in one update act in the order 0, 1, 2, 3: DESIGN CHOICE (log 44), since R40
gives none. -/
def monitorStage (s : State) : State :=
  evaluateMonitor 3 (evaluateMonitor 2 (evaluateMonitor 1 (evaluateMonitor 0 s)))

/-- The period update of the speed unit (R26). -/
def speedUpdate (closed : PerAxle Bool) (s : State) : State :=
  monitorStage (odometerStage (standstillStage (referenceStage (healthStage (readAxles closed s)))))

end Sys2Proof.Machine
end

