-- ==== Sys2Proof/Machine/Shaper.lean ====
section
/-!
DEFINITION. The demand shaper: the adhesion machine and the stages A to G of the demand computation (chapter 3).
-/

namespace Sys2Proof.Machine

/-! ### Adhesion (R60 to R64) -/

/-- The age in periods at which a slip history entry is removed (R64). -/
def historyAge : Nat := 250

/-- Every entry of the slip history ages by one period; an entry that reaches the age is removed (R64). -/
def ageHistory (s : State) : State :=
  s.withShaper { s.shaper with
    history := (s.shaper.history.map (· + 1)).filter fun age => decide (age < historyAge) }

/-- The detections within the history that raise the ADHESION demand (R64). -/
def slipCount : Nat := 3

/-- Raise or withdraw the ADHESION demand as the slip history asks (R64). -/
def countHistory (s : State) : State :=
  if slipCount ≤ s.shaper.history.length ∧ s.emerg.demands.adhesion = none then
    handDemands { s.emerg.demands with adhesion := some 2 } s
  else if s.shaper.history.length < slipCount ∧ s.emerg.demands.adhesion ≠ none then
    handDemands { s.emerg.demands with adhesion := none } s
  else s

/-- The healthy channels on the motored bogies. -/
def healthyM (axles : PerAxle AxleChannel) : List Axle := (healthyAxles axles).filter fun c => !isT c

/-- The slip difference (R60). -/
def slipDifference (s : State) : Int :=
  if 0 < s.shaper.prev then
    match fastest s.speed.axles (healthyM s.speed.axles) with
    | some c => ((axleGet s.speed.axles c).speed : Int) - s.speed.vRef
    | none => 0
  else if s.shaper.prev < 0 then
    match slowest s.speed.axles (healthyAxles s.speed.axles) with
    | some c => (s.speed.vRef : Int) - (axleGet s.speed.axles c).speed
    | none => 0
  else 0

/-- A detection moves the machine to SLIP (R61). -/
def detectSlip (difference : Int) (s : State) : State :=
  appendEvent (.slip (decide (s.shaper.prev < 0)) difference.toNat)
    (s.withShaper { s.shaper with
      adhesion := .slip
      cap := max 10 (s.shaper.prev.natAbs / 2)
      calm := 0
      history := s.shaper.history ++ [0] })

/-- The calm periods that end a SLIP (R62). -/
def calmRun : Nat := 5

/-- The calm run is complete: the machine moves to RECOVER with its cap unchanged (R62). -/
def calmComplete (s : State) : State :=
  s.withShaper { s.shaper with calm := calmRun, adhesion := .recover }

/-- The cap reaches 100: the machine moves to GRIP (R63). -/
def backToGrip (s : State) : State := s.withShaper { s.shaper with cap := 100, adhesion := .grip }

/-- A computation in SLIP (R62). -/
def slipPeriod (difference : Int) (s : State) : State :=
  if difference < 5 then
    if calmRun ≤ s.shaper.calm + 1 then calmComplete s
    else s.withShaper { s.shaper with calm := s.shaper.calm + 1 }
  else s.withShaper { s.shaper with calm := 0 }

/-- A computation in RECOVER without a detection (R63). -/
def recoverPeriod (s : State) : State :=
  if 100 ≤ s.shaper.cap + 2 then backToGrip s
  else s.withShaper { s.shaper with cap := s.shaper.cap + 2 }

/-- The adhesion machine of one computation (R61 to R63). -/
def adhesionStep (s : State) : State :=
  match s.shaper.adhesion with
  | .grip => if 15 < slipDifference s then detectSlip (slipDifference s) s else s
  | .slip => slipPeriod (slipDifference s) s
  | .recover => if 15 < slipDifference s then detectSlip (slipDifference s) s else recoverPeriod s

/-! ### Stages A and B (R45 to R48) -/

/-- The holding brake. -/
def holdingBrake : Int := -30

/-- The request of a cab slot (R45). -/
def slotRequest (slot : Slot) : Int :=
  if slot.fresh then
    match slot.lever with
    | .number v => max (-100) (min 100 v)
    | .emergency => -100
  else holdingBrake

/-- The request of the authority record (R45, R46, first table). -/
def recordRequest (s : State) : Int :=
  match s.auth.record with
  | .active e => slotRequest (s.slot e)
  | .remote =>
    if s.isCoupled then
      match s.consist.latest with
      | some f => f.rk
      | none => holdingBrake
    else holdingBrake
  | .claiming _ => min s.shaper.prev 0
  | .dark => holdingBrake
  | .parked _ _ => holdingBrake
  | .stabled _ => holdingBrake

/-- Whether the consist state forbids traction (R46, R57). -/
def consistForbids (s : State) : Bool :=
  decide (s.consist.state = .conflict) || decide (s.consist.state = .mismatch)

/-- Stage A: Ra (R45, R46). -/
def stageA (s : State) : Int := if consistForbids s then min (recordRequest s) 0 else recordRequest s

/-- Stage B: Rb, with the interlock and the holding brake (R47, R48). -/
def stageB (interlock standstill : Bool) (ra : Int) : Int :=
  if standstill && decide ((if interlock then min ra 0 else ra) ≤ 0) then
    min (if interlock then min ra 0 else ra) holdingBrake
  else if interlock then min ra 0 else ra

/-! ### Stages C and D (R49 to R52) -/

/-- The line ceiling Cl in use: the held value, at most 250 while VL is LOST (R49). -/
def lineCeilingInUse (s : State) : Nat :=
  if (s.port .vl).link then s.vl.lineCeiling else min s.vl.lineCeiling 250

/-- The partner's line ceiling Cp, 800 outside COUPLED (R49). -/
def partnerCeiling (s : State) : Nat :=
  if s.isCoupled then
    match s.consist.latest with
    | some f => f.ceiling
    | none => noCeiling
  else noCeiling

/-- The ceiling C (R49). -/
def ceiling (s : State) : Nat := min (lineCeilingInUse s) (min (junctionCeiling s) (partnerCeiling s))

/-- The traction allowance Tmax (R50). -/
def tractionAllowance (c v : Nat) : Nat := if c ≤ v then 0 else min 100 (100 * (c - v) / 30)

/-- Whether v_ref lies more than 20 above the ceiling (R51). -/
def overCeiling (c v : Nat) : Bool := decide (c + 20 < v)

/-- Stage C: Rc (R50, R51). -/
def stageC (c v : Nat) (rb : Int) : Int :=
  if overCeiling c v then min (if 0 < rb then min rb (tractionAllowance c v) else rb) (-40)
  else if 0 < rb then min rb (tractionAllowance c v) else rb

/-- The divisor in use (R52, R56). -/
def divisorInUse (s : State) : Nat :=
  if s.isCoupled && decide (s.consist.role = some .lead) then
    match s.consist.latest with
    | some f => max s.emerg.divisor f.divisor
    | none => s.emerg.divisor
  else s.emerg.divisor

/-- Stage D: Rd (R52). -/
def stageD (divisor : Nat) (standstill : Bool) (rc : Int) : Int :=
  if standstill && decide ((if 0 < rc then rc / (divisor : Int) else rc) = 0) then holdingBrake
  else if 0 < rc then rc / (divisor : Int) else rc

/-- Rb of the computation. -/
def requestB (s : State) : Int := stageB (interlock s) s.speed.standstill (stageA s)

/-- Rd of the computation; a REMOTE part skips stages C and D (R43). -/
def requestD (s : State) : Int :=
  if s.isRemote then requestB s
  else stageD (divisorInUse s) s.speed.standstill (stageC (ceiling s) s.speed.vRef (requestB s))

/-! ### Stage E (R53 to R55) -/

/-- Whether two demands are nonzero and of opposite signs. -/
def oppose (x y : Int) : Bool := (decide (0 < x) && decide (y < 0)) || (decide (x < 0) && decide (0 < y))

/-- The target of stage E (R53). -/
def targetE (prev rd : Int) : Int := if oppose prev rd then 0 else rd

/-- The demand moved from `o` toward the target under the jerk limits (R55). -/
def jerk (o target : Int) : Int :=
  if o.natAbs < target.natAbs then
    if target.natAbs - o.natAbs ≤ 4 then target
    else if 0 < target then o + 4 else o - 4
  else if target.natAbs < o.natAbs then
    if o.natAbs - target.natAbs ≤ 8 then target
    else if 0 < o then o - 8 else o + 8
  else target

/-- Whether a target has the dwell sign (R54). -/
def sameSign (sign : Option Bool) (target : Int) : Bool :=
  match sign with
  | some true => decide (0 < target)
  | some false => decide (target < 0)
  | none => false

/-- The dwell counter runs down by one; at 0 no sign is held (R54). -/
def dwellDown (dwell : Nat) (sign : Option Bool) : Nat × Option Bool :=
  (dwell - 1, if dwell ≤ 1 then none else sign)

/-- Stage E: Oj with the dwell counter and sign it leaves (R54). -/
def stageE (prev target : Int) (dwell : Nat) (sign : Option Bool) : Int × Nat × Option Bool :=
  if dwell = 0 then (jerk prev target, 0, none)
  else if sameSign sign target then (jerk 0 target, 0, none)
  else (0, dwellDown dwell sign)

/-! ### Stages F and G (R56 to R58) -/

/-- The caps of stage F (R56). -/
def applyCaps (divisor cap : Nat) (oj : Int) : Int :=
  if 0 < oj then min oj (min (100 / divisor : Nat) (cap : Int))
  else if oj < 0 then max oj (-(cap : Int))
  else oj

/-- Whether the traction permit holds (R57). -/
def permitted (s : State) : Bool :=
  (s.activeEnd.isSome || (s.isRemote && s.isCoupled)) && !consistForbids s && !interlock s

/-- Stage F: the caps, then the traction permit (R56, R57). -/
def stageF (divisor cap : Nat) (permit : Bool) (oj : Int) : Int :=
  if 0 < applyCaps divisor cap oj ∧ permit = false then 0 else applyCaps divisor cap oj

/-- The periods of dwell a landing at zero sets (R54). -/
def dwellPeriods : Nat := 5

/-- The dwell counter and sign after stage F (R54). -/
def landDwell (prev o : Int) (dwell : Nat × Option Bool) : Nat × Option Bool :=
  if o = 0 ∧ prev ≠ 0 then (dwellPeriods, some (decide (0 < prev))) else dwell

/-- The demand O and the dwell after stages E to G, for a request Rd (R53 to R58). In the first computation after a release a
dwell counter above 0, which no computation under the latch has set to 0, goes by R54's table as in any other: DESIGN CHOICE
(log 48), where R59 ramps from -100 by steps of 8. -/
def stagesEtoG (s : State) (rd : Int) : Int × Nat × Option Bool :=
  if s.holding then (-100, 0, none)
  else
    let e := stageE s.shaper.prev (targetE s.shaper.prev rd) s.shaper.dwell s.shaper.dwellSign
    let o := stageF (divisorInUse s) s.shaper.cap (permitted s) e.1
    (o, landDwell s.shaper.prev o e.2)

/-- The overspeed flag of the computation, clear for a REMOTE part (R51). -/
def overspeedNow (s : State) : Bool := !s.isRemote && overCeiling (ceiling s) s.speed.vRef

/-- Write the overspeed flag, with OVERSPEED on its rise (R51). -/
def settleOverspeed (s : State) : State :=
  let s1 := s.withShaper { s.shaper with overspeed := overspeedNow s }
  if overspeedNow s && !s.shaper.overspeed then appendEvent (.overspeed (ceiling s) s.speed.vRef) s1 else s1

/-- The demand frame of a computation whose output is `o` (R65). -/
def demandFrame (s : State) (o : Int) : DemandFrame where
  tag := s.shaper.frames
  demand := o
  emerg := s.holding
  overspeed := s.shaper.overspeed
  sand := decide (s.shaper.adhesion ≠ .grip)
  divisor := divisorInUse s
  authority := s.auth.record.shown

/-- Step 9: O is stored and the demand frame sent (R43, R65, R67). -/
def sendDemand (rd : Int) (s : State) : State :=
  s.withShaper { s.shaper with
    prev := (stagesEtoG s rd).1
    dwell := (stagesEtoG s rd).2.1
    dwellSign := (stagesEtoG s rd).2.2
    rd := rd
    frames := s.shaper.frames + 1
    demandLine := some (demandFrame s (stagesEtoG s rd).1) }

/-- Steps 2 to 9 of a computation (R43). -/
def computeDemand (s : State) : State := sendDemand (requestD s) (settleOverspeed s)

/-- The O_prev a computation starts from: -100 in the first one with the latch clear after a release (R59, R74). -/
def startingDemand (s : State) : Int := if s.shaper.released && !s.holding then -100 else s.shaper.prev

/-- The computation starts from its O_prev, and no release waits for a computation any more (R59, R74). The dwell counter and
sign stay as they are: DESIGN CHOICE (log 48) where the latch was set and released between two computations. -/
def startComputation (s : State) : State :=
  s.withShaper { s.shaper with prev := startingDemand s, released := false }

/-- The shaper at an expiry of its timer (R43, R64, R66). -/
def shaperPeriod (s : State) : State :=
  if s.isStabled then countHistory (ageHistory s)
  else computeDemand (countHistory (adhesionStep (startComputation (ageHistory s))))

end Sys2Proof.Machine
end

