-- ==== Sys2Proof/Machine/Reports.lean ====
section
/-!
DEFINITION. The cyclic frames as they are built: cab display, vehicle report and consist frame (R79, R117, R137, R161, R181,
R183, R194, R199).
-/

namespace Sys2Proof.Machine

/-- What a record shows; r only outside ON_POINT (R117). -/
def JunctionRecord.view (odo : Count24) (x : JunctionRecord) : RecordView :=
  ⟨x.junction, x.leg, x.state, x.permit, if x.state = .onPoint then none else some (x.r odo)⟩

/-- The stop state a display shows: the mirror in a REMOTE part, else the own one (R161). -/
def State.shownStop (s : State) : Mirror :=
  if s.isRemote then s.mirrorNow
  else ⟨s.stop.own.phase, s.stop.own.doors, s.stop.own.assist, s.stop.own.side1, s.stop.own.side2⟩

/-- Sides 1 and 2 named LEFT and RIGHT as seen from an end (00_scope.md, sides and doors). -/
def seenSides (e : End) (side1 side2 : Bool) : Bool × Bool :=
  match e with
  | .a => (side1, side2)
  | .b => (side2, side1)

/-- Whether an output is on. -/
def StepOutput.isOn : StepOutput → Bool
  | .off => false
  | .on => true
  | .tone _ => true

/-- The cab display frame for an end (section 10.10). -/
def cabDisplay (e : End) (s : State) : CabDisplay where
  authority := s.auth.record.shown
  vRef := s.speed.vRef
  standstill := s.speed.standstill
  interlock := interlock s
  holding := s.holding
  buzzer := ((soundOutputs s).get (endBuzzer e)).isOn
  first := s.emerg.first
  unresolved := unresolved e s
  divisor := s.emerg.divisor
  cj := junctionCeiling s
  nearest := (nearest s).map (JunctionRecord.view s.speed.odometer)
  pendingLeg := s.junction.pendingLeg
  pendingPermit := s.junction.pendingPermit
  enquiry := s.junction.enquiry
  phase := s.shownStop.phase
  assist := s.shownStop.assist
  earlyPress := !s.isRemote && s.stop.own.earlyPress
  left := (seenSides e s.shownStop.side1 s.shownStop.side2).1
  right := (seenSides e s.shownStop.side1 s.shownStop.side2).2
  doors := s.shownStop.doors
  heldCrossing := s.wayside.held.map (·.crossing)
  acked := s.wayside.acked
  consist := s.consist.state
  role := s.consist.role
  partner := s.consist.identity
  partnerShows := s.consist.latest.map fun f => (f.authority.state, f.standstill)

/-- The health of a channel as the report shows it. -/
def AxleChannel.healthView (c : AxleChannel) : HealthView :=
  match c.health with
  | .healthy _ _ => none
  | .faulted cause _ => some cause

/-- What a sound channel shows (R181). -/
def channelView (k : Speaker) (s : State) : ChannelView where
  playing := (s.sound.channels.get k).playing.map fun e => (e.source, e.pattern, e.step)
  waiting := (s.sound.channels.get k).waiting.map fun e => (e.source, e.pattern)
  output := (soundOutputs s).get k

/-- The set of STUCK lines (R161). Line n stands at bit n: DESIGN CHOICE (log 49), since section 10.10 gives no bit numbers. -/
def stuckSet (s : State) : BitVec 32 :=
  (List.range 32).foldl (fun acc n =>
    match s.stop.lines[n]? with
    | some l => if l.state = .stuck then acc ||| (1#32 <<< n) else acc
    | none => acc) 0

/-- The auto-open outputs: on while the door's pulse runs (R148). Door n stands at bit n: DESIGN CHOICE (log 49), since section
10.10 gives no bit numbers. -/
def pulseSet (pulses : Vector (Option Nat) 8) : BitVec 8 :=
  (List.range 8).foldl (fun acc n =>
    match pulses[n]? with
    | some (some _) => acc ||| (1#8 <<< n)
    | _ => acc) 0

/-- The vehicle report frame (section 10.10, pages 0 to 10). In a REMOTE part it shows the own stop state, which is NONE there
(R159): DESIGN CHOICE (log 41), since R161 names the mirror for the display alone. The records stand in the order in which they
joined the table: DESIGN CHOICE (log 45), since pages 3 and 4 name no order. -/
def vehicleReport (s : State) : VehicleReport where
  authority := s.auth.record.shown
  demand := s.shaper.prev
  vRef := s.speed.vRef
  reference := s.speed.reference
  standstill := s.speed.standstill
  health := ⟨s.speed.axles.t1.healthView, s.speed.axles.t2.healthView, s.speed.axles.m1.healthView,
    s.speed.axles.m2.healthView⟩
  odometer := s.speed.odometer
  links := ⟨s.ports.ca.link, s.ports.cb.link, s.ports.vl.link, s.ports.kl.link⟩
  recorded := s.emerg.recorded
  first := s.emerg.first
  commandHold := s.emerg.commandHold
  lineState := s.outputs.brakeLine
  armed := s.emerg.armed
  divisor := s.emerg.divisor
  demands := s.emerg.demands
  vigil := s.emerg.vigil
  action := s.emerg.action
  locked := s.emerg.locked
  lineCeiling := lineCeilingInUse s
  planCount := s.junction.plan.length
  planHead := s.junction.plan.head?.map (·.junction)
  overflow := s.junction.overflow.map (·.junction)
  tableFull := s.junction.tableFull
  records := s.junction.records.map (JunctionRecord.view s.speed.odometer)
  cj := junctionCeiling s
  eventCount := s.vl.events.length
  queueCounts := (s.wayside.jr.length, s.wayside.jq.length, s.wayside.sp.length, s.wayside.vx.length)
  sending := s.wayside.sending.map fun t => (t.source, t.telegram.kind)
  levels := s.wayside.levels
  priorityClass := s.vl.priorityClass
  heldCrossing := s.wayside.held.map (·.crossing)
  acked := s.wayside.acked.map Prod.fst
  stop := s.stop.own
  doorClosed := s.pins.doorClosed
  enable1 := s.outputs.enable1
  enable2 := s.outputs.enable2
  sign := s.outputs.sign
  interlock := interlock s
  autoOpen := s.outputs.autoOpen
  stuck := stuckSet s
  channels := ⟨channelView .bell s, channelView .horn s, channelView .chime s, channelView .buzzerA s,
    channelView .buzzerB s⟩
  quiet := s.vl.quiet
  forcedOff := s.sound.forcedOff.isSome
  partnerHolding := (s.consist.latest.map (·.holding)).getD false
  partnerSources := (s.consist.latest.map (·.ownSources)).getD 0
  consist := s.consist.state
  role := s.consist.role
  joinCount := s.consist.count
  coupledEnd := s.consist.coupledEnd
  facingEnd := s.consist.facingEnd
  partner := s.consist.identity
  length := consistLength s
  partnerRk := (s.consist.latest.map (·.rk)).getD 0
  partnerDivisor := (s.consist.latest.map (·.divisor)).getD 0
  partnerCeiling := (s.consist.latest.map (·.ceiling)).getD 0
  flags := s.vl.flags

/-- The stop block, present while the role is LEAD (R183). -/
def stopBlock (s : State) : Option StopBlock :=
  if s.consist.role = some .lead then
    match s.activeEnd with
    | some e => some ⟨s.stop.own.phase, s.stop.own.doors, s.stop.own.assist,
        (seenSides e s.stop.own.side1 s.stop.own.side2).1, (seenSides e s.stop.own.side1 s.stop.own.side2).2⟩
    | none => none
  else none

/-- The manual bell item (R179). -/
def manualBell (s : State) : Bool := s.activeEnd.isSome && s.sound.channels.bell.holds .manualBell

/-- The intent a consist frame carries: the running exchange (R13). -/
def intentNow (s : State) : Option Byte :=
  match s.auth.record with
  | .claiming i => some i.exchange
  | .dark => none
  | .active _ => none
  | .parked _ _ => none
  | .remote => none
  | .stabled _ => none

/-- The consist frame (R183). -/
def consistFrame (s : State) : ConsistFrame where
  vehicle := s.vl.vehicleNumber
  rank := s.vl.rank
  length := s.vl.length
  coupledEnd := s.consist.coupledEnd
  authority := s.auth.record.shown
  rk := s.shaper.rd
  divisor := s.emerg.divisor
  ceiling := lineCeilingInUse s
  holding := s.holding
  ownSources := s.ownSources
  standstill := s.speed.standstill
  stopBlock := stopBlock s
  presses := if s.isRemote then some s.stop.forward else none
  manualBell := manualBell s
  intent := intentNow s
  answer := s.auth.answered

end Sys2Proof.Machine
end

