-- ==== Sys2Proof/Machine/Ports.lean ====
section
/-!
DEFINITION. The link ports: link state, command FIFO, the tests and the answer of a taken command, the transmit FIFO, the due
times; and what closes every event: the outputs, the POINT_WARN request and the owed notice (chapter 10).
-/

namespace Sys2Proof.Machine

/-! ### Link state (R198) -/

/-- The silence limit of a port in ms (R198). -/
def silenceLimit : Port → Nat
  | .ca => 200
  | .cb => 200
  | .vl => 500
  | .kl => 100

/-- A change of link state is reported (R198). -/
def reportLink (p : Port) (up : Bool) (s : State) : State :=
  raiseFlag .linkChange (appendEvent (.linkChanged p up) s)

/-- A valid frame restarts the silence timer, and makes a LOST link UP (R198). -/
def refreshLink (p : Port) (s : State) : State :=
  let s1 := s.setPort p { s.port p with link := true, silence := some (silenceLimit p) }
  if (s.port p).link then s1 else reportLink p true s1

/-- The silence timer expires: the link becomes LOST and the timer stops (R198). -/
def loseLink (p : Port) (s : State) : State :=
  let s1 := reportLink p false (s.setPort p { s.port p with link := false, silence := none })
  match portEnd p with
  | some e => cabLinkLost e s1
  | none => s1

/-! ### Command kinds (section 10.5) -/

/-- Whether a KIND is a command kind of any port. -/
def knownKind (k : Byte) : Bool :=
  (decide (0x10 ≤ k.toNat) && decide (k.toNat ≤ 0x19)) || (decide (0x20 ≤ k.toNat) && decide (k.toNat ≤ 0x2C))

/-- Whether a KIND is in a port's list; KL takes no commands. -/
def inList (p : Port) (k : Byte) : Bool :=
  match p with
  | .ca => decide (0x10 ≤ k.toNat) && decide (k.toNat ≤ 0x19)
  | .cb => decide (0x10 ≤ k.toNat) && decide (k.toNat ≤ 0x19)
  | .vl => decide (0x20 ≤ k.toNat) && decide (k.toNat ≤ 0x2C)
  | .kl => false

/-- Whether a payload length matches a command kind (section 10.10, command payloads). -/
def lengthMatches (k : Byte) (n : Nat) : Bool :=
  match k.toNat with
  | 0x13 => decide (n = 1)
  | 0x16 => decide (n = 1)
  | 0x19 => decide (n = 2)
  | 0x20 => decide (n = 7)
  | 0x25 => decide (n = 6)
  | 0x26 => decide (2 ≤ n) && decide (n ≤ 11)
  | 0x27 => decide (n = 1)
  | 0x29 => decide (n = 2)
  | 0x2A => decide (n = 2)
  | 0x2B => decide (n = 2)
  | 0x2C => decide (n = 2)
  | _ => decide (n = 0)

/-- Whether a payload length matches a CONFIGURE item type (section 10.10). -/
def itemMatches (item n : Nat) : Bool :=
  match item with
  | 1 => decide (n = 3)
  | 2 => decide (n = 2)
  | 3 => decide (n = 3)
  | 4 => decide (n = 3)
  | 5 => decide (n = 4)
  | 6 => decide (n = 5)
  | 7 => decide (n = 5) || decide (n = 7) || decide (n = 9) || decide (n = 11)
  | 8 => decide (n = 2)
  | 9 => decide (n = 3)
  | 10 => decide (n = 6)
  | _ => false

/-- The item type of a CONFIGURE payload whose type is known and whose length matches it. -/
def itemOf (payload : List Byte) : Option Nat :=
  match payload with
  | t :: _ => if itemMatches t.toNat payload.length then some t.toNat else none
  | [] => none

/-- Whether a command is of a kind. -/
def ofKind (k : Byte) (c : Command) : Bool := decide (c.kind = k)

/-- The CONFIGURE kind. -/
def configureKind : Byte := 0x26

/-- Whether a command is a CONFIGURE with a given item. -/
def ofItem (item : Nat) (c : Command) : Bool :=
  ofKind configureKind c && decide (itemOf c.payload = some item)

/-- Whether a command is a CONFIGURE with an unknown item type or a length that does not match it. -/
def ofUnknownItem (c : Command) : Bool := ofKind configureKind c && (itemOf c.payload).isNone

/-- Whether a command's KIND is no command kind. -/
def ofUnknownKind (c : Command) : Bool := !knownKind c.kind

/-! ### Taking a command (R202, R20) -/

/-- What an owner gives back: result data, a refusal, or nothing yet for a claim its exchange answers (R13, R16, R17, R203). -/
inductive Reply where
  | accept (data : List Byte)
  | refuse (reason : Reason)
  | later
deriving DecidableEq, Repr

/-- Whether a port takes a command: its FIFO is not empty and the answer to the command before has been queued (R202). -/
def takes (p : Port) (s : State) : Bool :=
  !(s.port p).commands.isEmpty && (s.port p).unanswered.isNone && (s.port p).heldAnswer.isNone

/-- The tests a port makes itself, in order (R202). -/
def portRefusal (p : Port) (c : Command) : Option Reason :=
  if !knownKind c.kind then some .unknownKind
  else if !inList p c.kind then some .notPermitted
  else if !lengthMatches c.kind c.payload.length then some .badField
  else none

/-- Whether a stabled part serves a command as usual (R20): CLAIM, READ EVENT, WAKE, CLEAR FLAGS. -/
def servedStabled (k : Byte) : Bool := k == 0x10 || k == 0x22 || k == 0x28 || k == 0x2A

/-- A NOTICE owed by the event is built before the command's answer (log 9); then the answer is queued or held. -/
def giveReply (p : Port) (c : Command) (r : Reply × State) : State :=
  match r.1 with
  | .accept data => deliver p (.accepted c.kind c.tag data) (flushNotice r.2)
  | .refuse reason => deliver p (.refused c.kind c.tag reason .owner) (flushNotice r.2)
  | .later => flushNotice r.2

/-- The head command leaves the FIFO. -/
def popCommand (p : Port) (rest : List Command) (s : State) : State :=
  s.setPort p { s.port p with commands := rest }

/-- A command that passed the port's tests meets the STABLED gate of R20 and then its owner. -/
def ownerReply (c : Command) (owner : Command → State → Reply × State) (s : State) : Reply × State :=
  if s.isStabled && !servedStabled c.kind then (.refuse .stabled, s) else owner c s

/-- A taken command is tested by the port and answered (R202, R203). -/
def decideCommand (p : Port) (c : Command) (owner : Command → State → Reply × State) (s : State) : State :=
  match portRefusal p c with
  | some reason => deliver p (.refused c.kind c.tag reason .port) s
  | none => giveReply p c (ownerReply c owner s)

/-- The port takes the command at the head of its FIFO where it may and where the command is of the row (log 1). -/
def serve (p : Port) (ofRow : Command → Bool) (owner : Command → State → Reply × State) (s : State) : State :=
  if takes p s then
    match (s.port p).commands with
    | [] => s
    | c :: rest => if ofRow c then decideCommand p c owner (popCommand p rest s) else s
  else s

/-- A cab command's owner is given the sending end. -/
def fromEnd (p : Port) (owner : End → Command → State → Reply × State) (c : Command) (s : State) :
    Reply × State :=
  match portEnd p with
  | some e => owner e c s
  | none => (.refuse .notPermitted, s)

/-- A command that its port's tests refuse in every case has no owner. -/
def noOwner (_ : Command) (s : State) : Reply × State := (.refuse .badField, s)

/-! ### Arrival and leaving (R201, R204) -/

/-- A command joins the FIFO, is answered FULL, or is dropped (R201). -/
def arrive (p : Port) (c : Command) (s : State) : State :=
  if (s.port p).commands.length < fifoPlaces then
    s.setPort p { s.port p with commands := (s.port p).commands ++ [c] }
  else if txRoom p s then pushTx p (.refused c.kind c.tag .full .port) s
  else raiseFlag .rxLost s

/-- The held answer takes the room it waits for (R202, R204). -/
def queueHeld (p : Port) (s : State) : State :=
  match (s.port p).heldAnswer with
  | some e => if txRoom p s then pushTx p e (s.setPort p { s.port p with heldAnswer := none }) else s
  | none => s

/-- Freed room on a port goes to its held answer or, on VL, to an owed notice; which comes first is a free value where
both wait (R204; log 28). -/
def giveRoom (p : Port) (s : State) : State :=
  if p = .vl ∧ s.vl.owed = true ∧ (s.port p).heldAnswer.isSome = true then
    if s.freshValue.1 % 2 = 0 then flushNotice (queueHeld p s.freshValue.2)
    else queueHeld p (flushNotice s.freshValue.2)
  else queueHeld p s

/-- The entry at the head of the transmit FIFO leaves, and the next starts on the wire (R204). -/
def dropHead (p : Port) (s : State) : State :=
  s.setPort p { s.port p with
    transmit := (s.port p).transmit.drop 1
    wire := match (s.port p).transmit.drop 1 with
      | e :: _ => e.wireTime
      | [] => 0 }

/-- The port's train sequence number and due timer go on at a due time, whether the train is queued or skipped (R199). -/
def passDue (p : Port) (s : State) : State :=
  s.setPort p { s.port p with sequence := (s.port p).sequence + 1, due := dueInterval p }

/-! ### The end of an event -/

/-- The output lines as the state asks for them: the brake line (R71), enables, auto-opens and sign (section 7.3, R157), and
the sounds (R163). -/
def outputsOf (s : State) : Outputs where
  brakeLine := s.emerg.armed && decide (s.emerg.recorded = 0) && !s.isStabled
  enable1 := s.shownStop.side1
  enable2 := s.shownStop.side2
  autoOpen := pulseSet s.stop.pulses
  sign := decide (s.shownStop.phase ≠ .none)
  sounds := soundOutputs s

/-- The horn on-time returns to 0 each time the output goes OFF (R177). -/
def settleHorn (s : State) : State :=
  if (soundOutputs s).horn = .off then s.withSound { s.sound with hornOn := 0 } else s

/-- Drive the output lines. -/
def driveOutputs (s : State) : State := s.withOutputs (outputsOf s)

/-- What closes every event: the POINT_WARN request follows the warning condition (R105), the outputs follow the state, the
owed notice is built where there is room (log 9, 23, 27). -/
def settle (s : State) : State := driveOutputs (settleHorn (flushNotice (settleWarning s)))

end Sys2Proof.Machine
end

