-- ==== Sys2Proof/Machine/CabCommands.lean ====
section
/-!
DEFINITION. The commands of the cab links and their owners' decisions: CLAIM, RELEASE, EMERGENCY RESET, the door commands, the
leg commands, PERMIT and ENQUIRE POINT; and the command of an unknown KIND.
-/

namespace Sys2Proof.Machine

/-- What a command or event answers when the event is over: the next state, settled. -/
def done (s : State) : Host.Outcome State Fault Refusal := .next (settle s)

/-- Whether an end is the active end of an ACTIVE record. -/
def isActiveEnd (e : End) (s : State) : Bool := decide (s.activeEnd = some e)

/-! ### CLAIM (R4, R5, R12, R13) -/

/-- Whether a record of the junction table is in ON_POINT (R4). -/
def anyOnPoint (s : State) : Bool := s.junction.records.any fun x => decide (x.state = .onPoint)

/-- A claim from DARK or PARKED as the consist state decides it (R4, R12); `take` is the claim's effect as a single vehicle. -/
def claimFrom (e : End) (prev : Previous) (c : Command) (take : State → State) (s : State) : Reply × State :=
  match s.consist.state with
  | .coupled => (.later, beginExchange e prev c s)
  | .joining => (.refuse .consistFault, s)
  | .mismatch => (.refuse .consistFault, s)
  | .single => (.accept [], take s)
  | .severed => (.accept [], take s)
  | .conflict => (.accept [], take s)

/-- The table of R4, after the key and link checks. -/
def claimByRecord (e : End) (c : Command) (s : State) : Reply × State :=
  match s.auth.record with
  | .dark => claimFrom e .dark c (changeRecord (.active e)) s
  | .parked y t =>
    if y = e then claimFrom e (.parked y t) c (changeRecord (.active e)) s
    else if !s.speed.standstill then (.refuse .moving, s)
    else if anyOnPoint s then (.refuse .onPoint, s)
    else claimFrom e (.parked y t) c (handover e) s
  | .active y => if y = e then (.accept [], s) else (.refuse .heldByOther, s)
  | .claiming _ => (.refuse .busy, s)
  | .remote => (.refuse .remote, s)
  | .stabled _ => (.refuse .stabled, s)

/-- The decision of a CLAIM from an end (R4). -/
def decideClaim (e : End) (c : Command) (s : State) : Reply × State :=
  if !s.pins.key.get e then (.refuse .noKey, s)
  else if !(s.port (endPort e)).link then (.refuse .link, s)
  else claimByRecord e c s

/-- CLAIM (R4). -/
def execClaim (p : Port) (s : State) : Host.Outcome State Fault Refusal :=
  done (serve p (ofKind 0x10) (fromEnd p decideClaim) s)

/-! ### RELEASE (R7) -/

/-- The decision of a RELEASE from an end (R7). -/
def decideRelease (e : End) (_ : Command) (s : State) : Reply × State :=
  if isActiveEnd e s then
    if s.speed.standstill then (.accept [], park e s) else (.refuse .moving, s)
  else (.refuse .notActive, s)

/-- RELEASE (R7). -/
def execRelease (p : Port) (s : State) : Host.Outcome State Fault Refusal :=
  done (serve p (ofKind 0x11) (fromEnd p decideRelease) s)

/-! ### EMERGENCY RESET (R73, R74) -/

/-- Whether the slot of an end is FRESH with a lever of -50 or less (R73). -/
def leverBrakes (slot : Slot) : Bool :=
  slot.fresh && (match slot.lever with
    | .number v => decide (v ≤ -50)
    | .emergency => false)

/-- The decision of an EMERGENCY RESET from an end (R73). -/
def decideReset (e : End) (_ : Command) (s : State) : Reply × State :=
  if !isActiveEnd e s then (.refuse .notActive, s)
  else if !s.holding then (.accept [], s)
  else if !s.speed.standstill then (.refuse .moving, s)
  else if unresolved e s ≠ 0 then (.refuse .sourceActive, s)
  else if !leverBrakes (s.slot e) then (.refuse .lever, s)
  else (.accept [], releaseLatch s)

/-- EMERGENCY RESET (R73). -/
def execEmergencyReset (p : Port) (s : State) : Host.Outcome State Fault Refusal :=
  done (serve p (ofKind 0x12) (fromEnd p decideReset) s)

/-! ### DOOR RELEASE (R147) -/

/-- The released sides an answer names, as seen from the sending end: bit 0 LEFT, bit 1 RIGHT. -/
def sidesByte (e : End) (o : StopState) : Byte :=
  byteOf (bitAt (seenSides e o.side1 o.side2).1 0 + bitAt (seenSides e o.side1 o.side2).2 1)

/-- Whether RIGHT (or LEFT) from an end is physical side 2 (00_scope.md, sides and doors). -/
def isSide2 (e : End) (right : Bool) : Bool :=
  match e with
  | .a => right
  | .b => !right

/-- Whether a physical side is released. -/
def StopState.released (o : StopState) (side2 : Bool) : Bool := if side2 then o.side2 else o.side1

/-- The stop state at AT_STOP with one more side released. -/
def StopState.atStop (o : StopState) (side2 : Bool) : StopState :=
  { o with phase := .atStop, side1 := o.side1 || !side2, side2 := o.side2 || side2 }

/-- The stop state after a release from DEPARTING: the early doors join the set (R147). -/
def StopState.reopened (o : StopState) (side2 : Bool) : StopState :=
  { o with
    phase := .atStop
    doors := o.doors ||| o.earlyDoors
    side1 := !side2
    side2 := side2
    closeOdo := Option.none
    earlyPress := false
    earlyDoors := 0
    earlyAssist := false }

/-- Auto-open pulses to the doors of the set on a side (R147, step 2). -/
def pulseSide (side2 : Bool) (s : State) : State :=
  s.withStop { s.stop with
    pulses := Vector.ofFn fun d : Fin 8 =>
      if s.stop.own.doors.getLsbD d.val && (onSide2 d.val == side2) then some pulseTime else s.stop.pulses[d] }

/-- What follows from a newly released side (R147, steps 2 and 3). -/
def sideReleased (side2 : Bool) (s : State) : State := appendEvent (.doorsReleased side2) (pulseSide side2 s)

/-- The release of a physical side in a stop state (R147). -/
def releaseSide (side2 : Bool) (s : State) : State :=
  match s.stop.own.phase with
  | .none => sideReleased side2 (setOwn (s.stop.own.atStop side2) s)
  | .requested => sideReleased side2 (setOwn (s.stop.own.atStop side2) s)
  | .atStop =>
    if s.stop.own.released side2 then s else sideReleased side2 (setOwn (s.stop.own.atStop side2) s)
  | .departing =>
    let s1 := setOwn (s.stop.own.reopened side2) s
    sideReleased side2 (if s.stop.own.earlyAssist then carryAssist s.stop.own.earlyDoors s1 else s1)

/-- The decision of a DOOR RELEASE from an end (R147). -/
def decideDoorRelease (e : End) (c : Command) (s : State) : Reply × State :=
  if !isActiveEnd e s then (.refuse .notActive, s)
  else match sideOf (c.payload.headD 0) with
    | none => (.refuse .badField, s)
    | some right =>
      if !s.speed.standstill then (.refuse .moving, s)
      else (.accept [sidesByte e (releaseSide (isSide2 e right) s).stop.own], releaseSide (isSide2 e right) s)

/-- DOOR RELEASE (R147). -/
def execDoorRelease (p : Port) (s : State) : Host.Outcome State Fault Refusal :=
  done (serve p (ofKind 0x13) (fromEnd p decideDoorRelease) s)

/-! ### DOOR CLOSE (R149) and ASSIST ACK (R150) -/

/-- DOOR CLOSE taken in AT_STOP (R149). -/
def closeDoors (s : State) : State :=
  appendEvent .doorsClosed (requestSound .chime .departChime 4 false
    (endPulses (setOwn { s.stop.own with
      phase := .departing, side1 := false, side2 := false, closeOdo := some s.speed.odometer } s)))

/-- The decision of a DOOR CLOSE from an end (R149). -/
def decideDoorClose (e : End) (_ : Command) (s : State) : Reply × State :=
  if !isActiveEnd e s then (.refuse .notActive, s)
  else match s.stop.own.phase with
    | .none => (.refuse .nothing, s)
    | .requested => (.refuse .nothing, s)
    | .atStop => if s.stop.own.assist then (.refuse .assistPending, s) else (.accept [], closeDoors s)
    | .departing => (.accept [], s)

/-- DOOR CLOSE (R149). -/
def execDoorClose (p : Port) (s : State) : Host.Outcome State Fault Refusal :=
  done (serve p (ofKind 0x14) (fromEnd p decideDoorClose) s)

/-- The decision of an ASSIST ACK from an end (R150). -/
def decideAssistAck (e : End) (_ : Command) (s : State) : Reply × State :=
  if !isActiveEnd e s then (.refuse .notActive, s)
  else if s.stop.own.assist then (.accept [], setOwn { s.stop.own with assist := false } s)
  else (.refuse .nothing, s)

/-- ASSIST ACK (R150). -/
def execAssistAck (p : Port) (s : State) : Host.Outcome State Fault Refusal :=
  done (serve p (ofKind 0x15) (fromEnd p decideAssistAck) s)

/-! ### SELECT LEG, CANCEL LEG, PERMIT (R110 to R112) -/

/-- A record takes a new leg (R110). -/
def takeLeg (x : JunctionRecord) (leg : Leg) (s : State) : State :=
  appendEvent (.junctionRequested x.junction (some leg))
    (offerRequest x.junction leg
      (updateRecord x.junction (fun y => { y with
        leg := some leg, state := .requested, reportTimer := some reportTime, reTimer := some reRequestTime }) s))

/-- The decision of a SELECT LEG from an end (R110). -/
def decideSelectLeg (e : End) (c : Command) (s : State) : Reply × State :=
  match legOf (c.payload.headD 0) with
  | none => (.refuse .badField, s)
  | some leg =>
    if !isActiveEnd e s then (.refuse .notActive, s)
    else match nearest s with
      | some x =>
        if x.state = .locked then (.refuse .locked, s)
        else (.accept (bytes2 x.junction), takeLeg x leg s)
      | none => (.accept (bytes2 0), s.withJunction { s.junction with pendingLeg := some leg })

/-- SELECT LEG (R110). -/
def execSelectLeg (p : Port) (s : State) : Host.Outcome State Fault Refusal :=
  done (serve p (ofKind 0x16) (fromEnd p decideSelectLeg) s)

/-- The decision of a CANCEL LEG from an end (R111). -/
def decideCancelLeg (e : End) (_ : Command) (s : State) : Reply × State :=
  if !isActiveEnd e s then (.refuse .notActive, s)
  else match s.junction.pendingLeg, nearest s with
    | some _, _ => (.accept (bytes2 0), s.withJunction { s.junction with pendingLeg := none })
    | none, some x => (.accept (bytes2 x.junction), cancelRecord x s)
    | none, none => (.refuse .nothing, s)

/-- CANCEL LEG (R111). -/
def execCancelLeg (p : Port) (s : State) : Host.Outcome State Fault Refusal :=
  done (serve p (ofKind 0x17) (fromEnd p decideCancelLeg) s)

/-- The decision of a PERMIT from an end (R112). -/
def decidePermit (e : End) (_ : Command) (s : State) : Reply × State :=
  if !isActiveEnd e s then (.refuse .notActive, s)
  else if 50 < s.speed.vRef then (.refuse .moving, s)
  else match nearest s with
    | some x => (.accept (bytes2 x.junction), updateRecord x.junction (fun y => { y with permit := true }) s)
    | none => (.accept (bytes2 0), s.withJunction { s.junction with pendingPermit := true })

/-- PERMIT (R112). -/
def execPermit (p : Port) (s : State) : Host.Outcome State Fault Refusal :=
  done (serve p (ofKind 0x18) (fromEnd p decidePermit) s)

/-! ### ENQUIRE POINT (R115) -/

/-- Set the held enquiry slot. -/
def setEnquiry (q : Enquiry) (s : State) : State := s.withJunction { s.junction with enquiry := q }

/-- The age in ms below which a record's last report answers an enquiry at once (R115). -/
def freshReport : Nat := 500

/-- A fresh last report of a junction's record (R115). -/
def freshReportOf (j : Nat) (s : State) : Option Report :=
  match s.record j with
  | some x => x.lastReport.filter fun r => decide (r.age < freshReport)
  | none => none

/-- The slot waits for a junction, with a query for it (R115). -/
def waitFor (j : Nat) (s : State) : State := setEnquiry (.waiting j holdTime) (offerQuery j s)

/-- An enquiry meets the slot (R115). -/
def enquire (j : Nat) (s : State) : Reply × State :=
  match s.junction.enquiry with
  | .free =>
    match freshReportOf j s with
    | some r => (.accept (enquiryData j r), s)
    | none => (.refuse .retry, waitFor j s)
  | .waiting k _ => if k = j then (.refuse .retry, waitFor j s) else (.refuse .held, s)
  | .ready k r _ => if k = j then (.accept (enquiryData j r), setEnquiry .free s) else (.refuse .held, s)

/-- The decision of an ENQUIRE POINT; either end may ask (R115). -/
def decideEnquire (_ : End) (c : Command) (s : State) : Reply × State :=
  match c.payload with
  | [j1, j0] =>
    if numberOk (word16 j1 j0).toNat then enquire (word16 j1 j0).toNat s else (.refuse .badField, s)
  | _ => (.refuse .badField, s)

/-- ENQUIRE POINT (R115). -/
def execEnquirePoint (p : Port) (s : State) : Host.Outcome State Fault Refusal :=
  done (serve p (ofKind 0x19) (fromEnd p decideEnquire) s)

/-! ### A command of an unknown KIND (R202) -/

/-- A command whose KIND no port has: refused UNKNOWN_KIND by the port (R202). -/
def execUnknownKind (p : Port) (s : State) : Host.Outcome State Fault Refusal :=
  done (serve p ofUnknownKind noOwner s)

end Sys2Proof.Machine
end

