-- ==== Sys2Proof/Machine/VehicleCommands.lean ====
section
/-!
DEFINITION. The commands of the vehicle link but CONFIGURE: route plan, trip events, emergency command, service telegrams,
stabling, sound test and notice flags.
-/

namespace Sys2Proof.Machine

/-! ### PLAN APPEND and PLAN CLEAR (R91, R92) -/

/-- The plan entry of a payload, none where a field is out of range (R91, section 5.1). -/
def planEntryOf (payload : List Byte) : Option PlanEntry :=
  match payload with
  | [j1, j0, leg, c1, c0, distance, length] =>
    match legOf leg with
    | some l =>
      if numberOk (word16 j1 j0).toNat && decide (50 ≤ (word16 c1 c0).toNat) && decide ((word16 c1 c0).toNat ≤ 250)
          && decide (5 ≤ distance.toNat) && decide (distance.toNat ≤ 250)
          && decide (5 ≤ length.toNat) && decide (length.toNat ≤ 60) then
        some ⟨(word16 j1 j0).toNat, l, (word16 c1 c0).toNat, distance.toNat, length.toNat⟩
      else none
    | none => none
  | _ => none

/-- The decision of a PLAN APPEND (R91). -/
def decidePlanAppend (c : Command) (s : State) : Reply × State :=
  match planEntryOf c.payload with
  | none => (.refuse .badField, s)
  | some e =>
    if s.junction.plan.length < planPlaces then
      (.accept [byteOf (s.junction.plan.length + 1)],
        s.withJunction { s.junction with plan := s.junction.plan ++ [e] })
    else (.refuse .full, s)

/-- PLAN APPEND (R91). -/
def execPlanAppend (p : Port) (s : State) : Host.Outcome State Fault Refusal :=
  done (serve p (ofKind 0x20) decidePlanAppend s)

/-- The decision of a PLAN CLEAR (R92). -/
def decidePlanClear (_ : Command) (s : State) : Reply × State :=
  (.accept [byteOf s.junction.plan.length], s.withJunction { s.junction with plan := [] })

/-- PLAN CLEAR (R92). -/
def execPlanClear (p : Port) (s : State) : Host.Outcome State Fault Refusal :=
  done (serve p (ofKind 0x21) decidePlanClear s)

/-! ### READ EVENT (R208) -/

/-- The decision of a READ EVENT (R208). -/
def decideReadEvent (_ : Command) (s : State) : Reply × State :=
  match s.vl.events with
  | [] => (.refuse .empty, raiseFlag .readEmpty s)
  | e :: es => (.accept e.bytes, s.withVl { s.vl with events := es })

/-- READ EVENT (R208). -/
def execReadEvent (p : Port) (s : State) : Host.Outcome State Fault Refusal :=
  done (serve p (ofKind 0x22) decideReadEvent s)

/-! ### APPLY EMERGENCY and RELEASE COMMAND SOURCE (R70) -/

/-- The decision of an APPLY EMERGENCY (R70). -/
def decideApplyEmergency (_ : Command) (s : State) : Reply × State :=
  (.accept [], setSource .command (s.withEmerg { s.emerg with commandHold := true }))

/-- APPLY EMERGENCY (R70). -/
def execApplyEmergency (p : Port) (s : State) : Host.Outcome State Fault Refusal :=
  done (serve p (ofKind 0x23) decideApplyEmergency s)

/-- The decision of a RELEASE COMMAND SOURCE (R70). -/
def decideReleaseCommand (_ : Command) (s : State) : Reply × State :=
  if s.emerg.commandHold then (.accept [], s.withEmerg { s.emerg with commandHold := false })
  else (.refuse .nothing, s)

/-- RELEASE COMMAND SOURCE (R70). -/
def execReleaseCommandSource (p : Port) (s : State) : Host.Outcome State Fault Refusal :=
  done (serve p (ofKind 0x24) decideReleaseCommand s)

/-! ### SEND TELEGRAM (R126) -/

/-- The decision of a SEND TELEGRAM (R126); the answer counts the entries VX holds once the six bytes have joined. -/
def decideSendTelegram (c : Command) (s : State) : Reply × State :=
  match offerService c.payload s with
  | some s' => (.accept [byteOf (s.wayside.vx.length + 1)], s')
  | none => (.refuse .full, s)

/-- SEND TELEGRAM (R126). -/
def execSendTelegram (p : Port) (s : State) : Host.Outcome State Fault Refusal :=
  done (serve p (ofKind 0x25) decideSendTelegram s)

/-! ### STABLE and WAKE (R19, R23) -/

/-- Whether the consist state allows stabling: SINGLE, or COUPLED with role NEUTRAL (R19). -/
def stableAllowed (s : State) : Bool :=
  decide (s.consist.state = .single) || (s.isCoupled && decide (s.consist.role = some .neutral))

/-- The decision of a STABLE (R19). -/
def decideStable (c : Command) (s : State) : Reply × State :=
  if s.isStabled then (.refuse .stabled, s)
  else if 7 < (c.payload.headD 0).toNat then (.refuse .badField, s)
  else if !s.isDark then (.refuse .notDark, s)
  else if !s.speed.standstill then (.refuse .moving, s)
  else if s.pins.key.a || s.pins.key.b then (.refuse .keyOn, s)
  else if !stableAllowed s then (.refuse .consistFault, s)
  else (.accept [], enterStabled (c.payload.headD 0).toNat s)

/-- STABLE (R19). -/
def execStable (p : Port) (s : State) : Host.Outcome State Fault Refusal :=
  done (serve p (ofKind 0x27) decideStable s)

/-- The decision of a WAKE (R23). -/
def decideWake (_ : Command) (s : State) : Reply × State :=
  match s.auth.record with
  | .stabled threshold => if threshold < 5 then (.accept [], wakeUp .command s) else (.refuse .stabled, s)
  | .dark => (.accept [], s)
  | .claiming _ => (.accept [], s)
  | .active _ => (.accept [], s)
  | .parked _ _ => (.accept [], s)
  | .remote => (.accept [], s)

/-- WAKE (R23). -/
def execWake (p : Port) (s : State) : Host.Outcome State Fault Refusal :=
  done (serve p (ofKind 0x28) decideWake s)

/-! ### SOUND TEST (R180) -/

/-- Where the TEST entry stands on a channel (R180). -/
def testPlacement (k : Speaker) (s : State) : Placement :=
  if (s.sound.channels.get k).plays .test then .playing
  else if (s.sound.channels.get k).holds .test then .waiting
  else .dropped

/-- A TEST request is placed (R180): held where the pattern's repeat is HELD; DROPPED where quiet mode drops it. -/
def testSound (k : Speaker) (n : Fin 16) (s : State) : Reply × State :=
  if quietDrops k n s then (.accept [byteOf Placement.dropped.code], s)
  else
    let s1 := requestSound k .test n (decide ((s.sound.patterns[n]).rep = .held)) s
    (.accept [byteOf (testPlacement k s1).code], s1)

/-- The decision of a SOUND TEST (R180). -/
def decideSoundTest (c : Command) (s : State) : Reply × State :=
  match c.payload with
  | [ch, pat] =>
    match speakerOf ch, patternOrNone pat with
    | some k, some choice =>
      if !s.isDark then (.refuse .notDark, s)
      else match choice with
        | some n => testSound k n s
        | none =>
          if (s.sound.channels.get k).holds .test then (.accept [], withdrawSound k .test s)
          else (.refuse .nothing, s)
    | _, _ => (.refuse .badField, s)
  | _ => (.refuse .badField, s)

/-- SOUND TEST (R180). -/
def execSoundTest (p : Port) (s : State) : Host.Outcome State Fault Refusal :=
  done (serve p (ofKind 0x29) decideSoundTest s)

/-! ### Notice flags (R210, R211) -/

/-- The flag set of a payload, none where it names the unused bit (R210). -/
def flagSetOf (payload : List Byte) : Option Word16 :=
  match payload with
  | [f1, f0] => if namesUnused (word16 f1 f0) then none else some (word16 f1 f0)
  | _ => none

/-- The decision of a CLEAR FLAGS (R210). -/
def decideClearFlags (c : Command) (s : State) : Reply × State :=
  match flagSetOf c.payload with
  | none => (.refuse .badField, s)
  | some w =>
    (.accept (bytesOfWord (s.vl.flags &&& ~~~w)), s.withVl { s.vl with flags := s.vl.flags &&& ~~~w })

/-- CLEAR FLAGS (R210). -/
def execClearFlags (p : Port) (s : State) : Host.Outcome State Fault Refusal :=
  done (serve p (ofKind 0x2A) decideClearFlags s)

/-- The decision of a SET NOTICE MASK (R210). -/
def decideSetMask (c : Command) (s : State) : Reply × State :=
  match flagSetOf c.payload with
  | none => (.refuse .badField, s)
  | some w => (.accept (bytesOfWord w), s.withVl { s.vl with mask := w })

/-- SET NOTICE MASK (R210). -/
def execSetNoticeMask (p : Port) (s : State) : Host.Outcome State Fault Refusal :=
  done (serve p (ofKind 0x2B) decideSetMask s)

/-- Raise each flag of a set (R211). -/
def raiseSet (w : Word16) (s : State) : State :=
  (List.range 15).foldl (fun acc n => if w.getLsbD n then raiseBit n acc else acc) s

/-- The decision of a FORCE FLAGS (R211). -/
def decideForceFlags (c : Command) (s : State) : Reply × State :=
  if !s.isDark then (.refuse .notDark, s)
  else match flagSetOf c.payload with
    | none => (.refuse .badField, s)
    | some w => (.accept (bytesOfWord (raiseSet w s).vl.flags), raiseSet w s)

/-- FORCE FLAGS (R211). -/
def execForceFlags (p : Port) (s : State) : Host.Outcome State Fault Refusal :=
  done (serve p (ofKind 0x2C) decideForceFlags s)

end Sys2Proof.Machine
end

