-- ==== Sys2Proof/Machine/ConfigCommands.lean ====
section
/-!
DEFINITION. CONFIGURE and its ten items (R205): the owner tests common to all, then each item's own fields and rules.
-/

namespace Sys2Proof.Machine

/-- The owner tests before an item's own (R205), and the answer's item type; `take` judges the fields and gives a refusal or
the new state. -/
def configure (item : Nat) (take : List Byte → State → Reason ⊕ State) (c : Command) (s : State) : Reply × State :=
  if !s.isDark then (.refuse .notDark, s)
  else if !s.speed.standstill then (.refuse .moving, s)
  else match take (c.payload.drop 1) s with
    | .inl reason => (.refuse reason, s)
    | .inr s' => (.accept [byteOf item], s')

/-- An item whose type or length does not match: BAD_FIELD after the port's and the STABLED tests (R205). -/
def unknownItem (_ : Command) (s : State) : Reply × State := (.refuse .badField, s)

/-- A two-byte field within a range. -/
def fieldIn (lo hi : Nat) (b1 b0 : Byte) : Option Nat :=
  if lo ≤ (word16 b1 b0).toNat ∧ (word16 b1 b0).toNat ≤ hi then some (word16 b1 b0).toNat else none

/-! ### Identity items (R206) -/

/-- Item 1: the vehicle number. -/
def takeVehicleNumber (fields : List Byte) (s : State) : Reason ⊕ State :=
  match fields with
  | [b1, b0] =>
    match fieldIn 1 9999 b1 b0 with
    | some n => .inr (s.withVl { s.vl with vehicleNumber := n })
    | none => .inl .badField
  | _ => .inl .badField

/-- CONFIGURE with the vehicle number item (R206). -/
def execConfigureVehicleNumber (p : Port) (s : State) : Host.Outcome State Fault Refusal :=
  done (serve p (ofItem 1) (configure 1 takeVehicleNumber) s)

/-- Item 2: the rank. -/
def takeRank (fields : List Byte) (s : State) : Reason ⊕ State :=
  match fields with
  | [r] => .inr (s.withVl { s.vl with rank := r.toNat })
  | _ => .inl .badField

/-- CONFIGURE with the rank item (R206). -/
def execConfigureRank (p : Port) (s : State) : Host.Outcome State Fault Refusal :=
  done (serve p (ofItem 2) (configure 2 takeRank) s)

/-- Item 3: the length. -/
def takeLength (fields : List Byte) (s : State) : Reason ⊕ State :=
  match fields with
  | [b1, b0] =>
    match fieldIn 100 600 b1 b0 with
    | some n => .inr (s.withVl { s.vl with length := n })
    | none => .inl .badField
  | _ => .inl .badField

/-- CONFIGURE with the length item (R206). -/
def execConfigureLength (p : Port) (s : State) : Host.Outcome State Fault Refusal :=
  done (serve p (ofItem 3) (configure 3 takeLength) s)

/-! ### Pulse length and band monitors (R41) -/

/-- Item 4: the pulse length. -/
def takePulseLength (fields : List Byte) (s : State) : Reason ⊕ State :=
  match fields with
  | [b1, b0] =>
    match fieldIn 500 5000 b1 b0 with
    | some n => .inr (s.withSpeed { s.speed with pulseLength := n })
    | none => .inl .badField
  | _ => .inl .badField

/-- CONFIGURE with the pulse length item (R41). -/
def execConfigurePulseLength (p : Port) (s : State) : Host.Outcome State Fault Refusal :=
  done (serve p (ofItem 4) (configure 4 takePulseLength) s)

/-- The settings of a monitor from its fields: its state follows v_ref without a crossing (R41). -/
def monitorOf (threshold : Nat) (edge : Edge) (pattern : Option (Fin 16)) (vRef : Nat) : Monitor :=
  ⟨threshold, edge, pattern, decide (threshold + 5 ≤ vRef)⟩

/-- Item 10: a band monitor. -/
def takeMonitor (fields : List Byte) (s : State) : Reason ⊕ State :=
  match fields with
  | [m, t1, t0, edge, pat] =>
    match fieldIn 0 1000 t1 t0, edgeOf edge, patternOrNone pat with
    | some threshold, some e, some link =>
      if h : m.toNat < 4 then
        .inr (s.withSpeed { s.speed with
          monitors := s.speed.monitors.set m.toNat (monitorOf threshold e link s.speed.vRef) h })
      else .inl .badField
    | _, _, _ => .inl .badField
  | _ => .inl .badField

/-- CONFIGURE with the band monitor item (R41). -/
def execConfigureBandMonitor (p : Port) (s : State) : Host.Outcome State Fault Refusal :=
  done (serve p (ofItem 10) (configure 10 takeMonitor) s)

/-! ### The input map (R139) -/

/-- Item 5: a line of the input map; the line becomes IDLE. -/
def takeInputLine (fields : List Byte) (s : State) : Reason ⊕ State :=
  match fields with
  | [line, cls, door] =>
    match lineClassOf cls with
    | some c =>
      if h : line.toNat < 32 then
        if hd : door.toNat < 8 then
          .inr (setLine ⟨line.toNat, h⟩ ⟨c, ⟨door.toNat, hd⟩, .idle, 0, 0⟩ s)
        else .inl .badField
      else .inl .badField
    | none => .inl .badField
  | _ => .inl .badField

/-- CONFIGURE with an input map line item (R139). -/
def execConfigureInputMapLine (p : Port) (s : State) : Host.Outcome State Fault Refusal :=
  done (serve p (ofItem 5) (configure 5 takeInputLine) s)

/-! ### The pattern table (R165, R166) -/

/-- Whether a head item for a pattern is refused for the emergency sound (R165). -/
def emergencyHeadBad (n : Fin 16) (priority : Nat) (rep : Repeat) : Bool :=
  decide (n = emergencyPattern) && (decide (priority ≠ 7) || decide (rep ≠ .times 3))

/-- Item 6: a pattern head. -/
def takePatternHead (fields : List Byte) (s : State) : Reason ⊕ State :=
  match fields with
  | [n, priority, rep, count] =>
    match patternOf n, repeatOf rep with
    | some i, some r =>
      if priority.toNat ≤ 7 && decide (1 ≤ count.toNat) && decide (count.toNat ≤ 8)
          && !emergencyHeadBad i priority.toNat r then
        .inr (changePattern i { s.sound.patterns[i] with
          priority := priority.toNat, rep := r, count := count.toNat } s)
      else .inl .badField
    | _, _ => .inl .badField
  | _ => .inl .badField

/-- CONFIGURE with a pattern head item (R165). -/
def execConfigurePatternHead (p : Port) (s : State) : Host.Outcome State Fault Refusal :=
  done (serve p (ofItem 6) (configure 6 takePatternHead) s)

/-- The steps of a pattern steps item, none where an output or a duration is out of range (R165). -/
def stepsOf : List Byte → Option (List PatternStep)
  | [] => some []
  | [_] => none
  | out :: units :: rest =>
    match stepOf out, stepsOf rest with
    | some o, some more => if 1 ≤ units.toNat then some (⟨o, units.toNat⟩ :: more) else none
    | _, _ => none

/-- Write steps into consecutive places from place index `i`. -/
def writeSteps (places : Vector PatternStep 8) : Nat → List PatternStep → Vector PatternStep 8
  | _, [] => places
  | i, st :: rest => writeSteps (places.setIfInBounds i st) (i + 1) rest

/-- Item 7: pattern steps. -/
def takePatternSteps (fields : List Byte) (s : State) : Reason ⊕ State :=
  match fields with
  | n :: first :: rest =>
    match patternOf n, stepsOf rest with
    | some i, some steps =>
      if 1 ≤ first.toNat && decide (first.toNat ≤ 8) && decide (first.toNat + steps.length ≤ 9) then
        .inr (changePattern i { s.sound.patterns[i] with
          steps := writeSteps s.sound.patterns[i].steps (first.toNat - 1) steps } s)
      else .inl .badField
    | _, _ => .inl .badField
  | _ => .inl .badField

/-- CONFIGURE with a pattern steps item (R165). -/
def execConfigurePatternSteps (p : Port) (s : State) : Host.Outcome State Fault Refusal :=
  done (serve p (ofItem 7) (configure 7 takePatternSteps) s)

/-! ### The vigilance action (R89) and the source levels (R130) -/

/-- Item 8: the vigilance action. -/
def takeVigilanceAction (fields : List Byte) (s : State) : Reason ⊕ State :=
  match fields with
  | [a] =>
    match actionOf a with
    | some .brake => .inr (s.withEmerg { s.emerg with action := .brake, locked := true })
    | some .warnOnly =>
      if s.emerg.locked then .inl .lockedSetting
      else .inr (s.withEmerg { s.emerg with action := .warnOnly })
    | none => .inl .badField
  | _ => .inl .badField

/-- CONFIGURE with the vigilance action item (R89). -/
def execConfigureVigilanceAction (p : Port) (s : State) : Host.Outcome State Fault Refusal :=
  done (serve p (ofItem 8) (configure 8 takeVigilanceAction) s)

/-- The levels with the level of a source replaced; VX stays at 1. -/
def Levels.with (l : Levels) (src : Source) (level : Bool) : Levels :=
  match src with
  | .jr => { l with jr := level }
  | .jq => { l with jq := level }
  | .sp => { l with sp := level }
  | .vx => l

/-- Item 9: a source level. -/
def takeSourceLevel (fields : List Byte) (s : State) : Reason ⊕ State :=
  match fields with
  | [src, level] =>
    match sourceOf src with
    | some q =>
      if level.toNat ≤ 1 then
        .inr (s.withWayside { s.wayside with levels := s.wayside.levels.with q (decide (level.toNat = 1)) })
      else .inl .badField
    | none => .inl .badField
  | _ => .inl .badField

/-- CONFIGURE with a source level item (R130). -/
def execConfigureSourceLevel (p : Port) (s : State) : Host.Outcome State Fault Refusal :=
  done (serve p (ofItem 9) (configure 9 takeSourceLevel) s)

/-! ### An unknown item (R205) -/

/-- CONFIGURE with an unknown item type or a length that does not match it (R205). -/
def execConfigureUnknownItemType (p : Port) (s : State) : Host.Outcome State Fault Refusal :=
  done (serve p ofUnknownItem unknownItem s)

end Sys2Proof.Machine
end

