-- ==== Sys2Proof/Machine/LinkEvents.lean ====
section
/-!
DEFINITION. Frames received on the links, the transmitter's ends, and the due times of the cyclic trains (chapter 10).
-/

namespace Sys2Proof.Machine

/-! ### Command frames (R201) -/

/-- Whether a KIND is queued as a command: neither a cyclic kind nor one the part itself sends (R196). -/
def queuedKind (kind : Byte) : Bool :=
  !(sentKind kind || kind == 0x01 || kind == 0x02 || kind == 0x03)

/-- A valid command frame arrives (R201); a frame of another kind only refreshes the link (R196). Where the frame makes VL UP and
meets a full command FIFO, the FULL answer is queued before the NOTICE: DESIGN CHOICE (log 53). -/
def execCommandArrival (p : Port) (kind tag : Byte) (payload : List Byte) (s : State) :
    Host.Outcome State Fault Refusal :=
  done (if queuedKind kind then arrive p ⟨kind, tag, payload⟩ (refreshLink p s) else refreshLink p s)

/-! ### CAB STATE (R200, R2) -/

/-- Replace the slot of an end. -/
def setSlot (e : End) (x : Slot) (s : State) : State :=
  s.withAuth { s.auth with slots := s.auth.slots.set e x }

/-- The bell and horn requests follow a change of a button (R168). -/
def buttonChange (k : Speaker) (src : SoundSource) (pattern : Fin 16) (before after : Bool) (s : State) : State :=
  if after && !before then requestSound k src pattern true s
  else if before && !after then withdrawSound k src s
  else s

/-- What the active end's new slot hands on, in the order of R2 (log 19). -/
def handOnSlot (old new : Slot) (s : State) : State :=
  let s1 := vigilanceHold new.deadman s
  let s2 := if new.lever ≠ old.lever then vigilanceLever s1 else s1
  let s3 := if new.ack && !old.ack then vigilanceAck s2 else s2
  let s4 := buttonChange .horn .manualHorn 1 old.horn new.horn
    (buttonChange .bell .manualBell 0 old.bell new.bell s3)
  if new.lever = .emergency then setSource .lever s4 else s4

/-- A cab state reaches its slot (R2). -/
def takeCabState (e : End) (new : Slot) (s : State) : State :=
  if s.isStabled then s
  else if isActiveEnd e s then handOnSlot (s.slot e) new (setSlot e new s)
  else setSlot e new s

/-- A valid CAB STATE frame (R200). -/
def execCabState (e : End) (lever : Byte) (deadman ack bell horn : Bool) (s : State) :
    Host.Outcome State Fault Refusal :=
  done (takeCabState e ⟨leverOf lever, deadman, ack, bell, horn, true⟩ (refreshLink (endPort e) s))

/-! ### VEHICLE STATE (R200) -/

/-- The derate request of a VEHICLE STATE frame as a demand: a rung, 1 being no demand (R80). -/
def vehicleDemand (request : Nat) : Option Nat :=
  if rungAtOrAbove request = 1 then none else some (rungAtOrAbove request)

/-- The four held values are replaced (R200). -/
def takeVehicleState (lineCeiling priorityClass quiet derate : Nat) (s : State) : State :=
  handIfChanged { s.emerg.demands with vehicle := vehicleDemand derate }
    (s.withVl { s.vl with
      lineCeiling := min lineCeiling 800
      priorityClass := min priorityClass 3
      quiet := decide (quiet ≠ 0) })

/-- A valid VEHICLE STATE frame (R200). -/
def execVehicleState (ceiling : Word16) (priorityClass quiet derate : Byte) (s : State) :
    Host.Outcome State Fault Refusal :=
  done (takeVehicleState ceiling.toNat priorityClass.toNat quiet.toNat derate.toNat (refreshLink .vl s))

/-! ### CONSIST pages (R199) -/

/-- The high four bits of a page byte: the page number. -/
def pageNumber (b : Byte) : Nat := b.toNat / 16

/-- The low four bits of a page byte: the page count. -/
def pageCount (b : Byte) : Nat := b.toNat % 16

/-- Page 1 completes an assembly of its TAG with page 0 held; else the page is discarded. Either way the assembly empties
(R199). -/
def completePage (coupler : End) (tag : Byte) (page : List Byte) (s : State) : State :=
  match s.assembly with
  | some (t, page0) =>
    if t = tag then
      match consistOf page0 page with
      | some f => takeConsistFrame f coupler (s.withAssembly none)
      | none => s.withAssembly none
    else s.withAssembly none
  | none => s.withAssembly none

/-- A valid CONSIST page with its page byte is acted on (R199, R196; log 29). -/
def takePage (coupler : End) (tag head : Byte) (page : List Byte) (s : State) : State :=
  if pageCount head ≠ 2 then raiseFlag .checkErr (s.withAssembly none)
  else if pageNumber head = 0 then
    if page0Defined page then s.withAssembly (some (tag, page)) else raiseFlag .checkErr s
  else if pageNumber head = 1 then
    if page1Defined page then completePage coupler tag page s else raiseFlag .checkErr s
  else s.withAssembly none

/-- A valid CONSIST page (R199). -/
def execConsistPage (coupler : End) (tag : Byte) (payload : List Byte) (s : State) :
    Host.Outcome State Fault Refusal :=
  done (match payload with
    | [] => raiseFlag .checkErr (refreshLink .kl s)
    | head :: _ => takePage coupler tag head payload (refreshLink .kl s))

/-! ### Bad and discarded frames (R196), silence (R198) -/

/-- A bad frame: discarded, the port's check flag raised, the link not refreshed (R196). -/
def execBadFrame (p : Port) (s : State) : Host.Outcome State Fault Refusal :=
  done (raiseFlag (checkFlag p) s)

/-- A valid frame that is discarded; a malformed cyclic frame raises the check flag as well (R196). -/
def execFrameDiscarded (p : Port) (malformed : Bool) (s : State) : Host.Outcome State Fault Refusal :=
  done (if malformed then raiseFlag (checkFlag p) (refreshLink p s) else refreshLink p s)

/-- The silence timer of a port expires (R198). -/
def execSilenceTimerExpires (p : Port) (s : State) : Host.Outcome State Fault Refusal :=
  done (if (s.port p).silence.isSome then loseLink p s else s)

/-! ### The transmit FIFO (R204) and the due times (R199) -/

/-- The entry at the head of a transmit FIFO has been sent (R204). -/
def execTransmitEntryLeaves (p : Port) (s : State) : Host.Outcome State Fault Refusal :=
  done (if (s.port p).transmit.isEmpty then s else giveRoom p (dropHead p s))

/-- A CAB DISPLAY train falls due (R199, R204, R20). -/
def execCabDisplayDue (e : End) (s : State) : Host.Outcome State Fault Refusal :=
  done (passDue (endPort e)
    (if !s.isStabled && txRoom (endPort e) s then
      pushTx (endPort e) (.display (s.port (endPort e)).sequence (cabDisplay e s)) s
    else s))

/-- A VEHICLE REPORT train falls due, in every authority state (R199, R204). -/
def execVehicleReportDue (s : State) : Host.Outcome State Fault Refusal :=
  done (passDue .vl
    (if txRoom .vl s then pushTx .vl (.report (s.port .vl).sequence (vehicleReport s)) s else s))

/-- The forward list empties once a frame carries it (R155). -/
def emptyForward (s : State) : State :=
  if s.isRemote then s.withStop { s.stop with forward := Vector.replicate 8 none } else s

/-- A CONSIST train falls due (R183, R199, R204, R20). -/
def execConsistFrameDue (s : State) : Host.Outcome State Fault Refusal :=
  done (passDue .kl
    (if !s.isStabled && txRoom .kl s then
      emptyForward (pushTx .kl (.consist (s.port .kl).sequence (consistFrame s)) s)
    else s))

end Sys2Proof.Machine
end

