-- ==== Sys2Proof/Machine/LineEvents.lean ====
section
/-!
DEFINITION. The input lines: keys, door loop, passenger emergency loop, axle pulses, and the two resets.
-/

namespace Sys2Proof.Machine

/-- Write the key input of an end. -/
def setKey (e : End) (on : Bool) (s : State) : State :=
  s.withPins { s.pins with key := s.pins.key.set e on }

/-- Write the door loop input. -/
def setDoorLoop (closed : Bool) (s : State) : State := s.withPins { s.pins with doorClosed := closed }

/-- Write the passenger emergency loop input. -/
def setPassengerLoop (closed : Bool) (s : State) : State := s.withPins { s.pins with passengerClosed := closed }

/-- The key of an end goes off (R8). -/
def execKeyOff (e : End) (s : State) : Host.Outcome State Fault Refusal :=
  done (if s.pins.key.get e then keyGoesOff e (setKey e false s) else s)

/-- The key of an end goes on: a wake source of level 6, else nothing (R21, R8). -/
def execKeyOn (e : End) (s : State) : Host.Outcome State Fault Refusal :=
  done (if s.pins.key.get e then s else tryWake (.key e) (setKey e true s))

/-- An open door while moving outside a stop is reported (R152; log 33). -/
def reportOpening (s : State) : State :=
  if s.shownStop.phase = .none ∨ s.shownStop.phase = .requested then
    if s.speed.standstill then s else appendEvent .doorOpenMoving s
  else s

/-- The door loop opens (R152); a wake source of level 3 while STABLED. -/
def execDoorLoopOpens (s : State) : Host.Outcome State Fault Refusal :=
  done (if s.pins.doorClosed then
      if s.isStabled then tryWake .doorLoop (setDoorLoop false s) else reportOpening (setDoorLoop false s)
    else s)

/-- The door loop closes: the departure is tested (R151). -/
def execDoorLoopCloses (s : State) : Host.Outcome State Fault Refusal :=
  done (if s.pins.doorClosed then s else testDeparture (setDoorLoop true s))

/-- The passenger emergency loop opens: source LOOP, or a wake source of level 3 while STABLED (R69, R22). -/
def execPassengerLoopOpens (s : State) : Host.Outcome State Fault Refusal :=
  done (if s.pins.passengerClosed then
      if s.isStabled then tryWake .passengerLoop (setPassengerLoop false s)
      else setSource .loop (setPassengerLoop false s)
    else s)

/-- The passenger emergency loop closes: its release condition is clear from here on (R72). -/
def execPassengerLoopCloses (s : State) : Host.Outcome State Fault Refusal :=
  done (setPassengerLoop true s)

/-- The largest count of a period (R25). -/
def countLimit : Nat := 255

/-- A pulse on an axle input (R25). -/
def execAxlePulse (c : Axle) (s : State) : Host.Outcome State Fault Refusal :=
  done (s.withSpeed { s.speed with
    axles := axleSet s.speed.axles c
      { axleGet s.speed.axles c with count := min countLimit ((axleGet s.speed.axles c).count + 1) } })

/-- The part after a power-on reset: every block at its reset value with the default configuration; the input lines, the
queue of commands and the count of free values taken go on (R24, R42, R67, R90, R118, R138, R162, R182, R195, R212; log 8). -/
def powerOn (s : State) : State :=
  { State.reset with pins := s.pins, clock := Clock.reset s.clock.choices, pending := s.pending }

/-- The part after a line reset: as after a power-on reset, with the configuration kept (log 8). -/
def lineResetState (s : State) : State :=
  { powerOn s with
    speed := SpeedUnit.reset s.speed.monitors s.speed.pulseLength
    emerg := EmergencyUnit.reset s.emerg.action s.emerg.locked
    wayside := Wayside.reset s.wayside.levels
    stop := StopUnit.reset s.stop.lines
    sound := SoundUnit.reset s.sound.patterns
    vl := VlUnit.reset s.vl.vehicleNumber s.vl.rank s.vl.length }

/-- POWER_ON_RESET (R24, R212 and the reset rule of each chapter). -/
def execPowerOnReset (s : State) : Host.Outcome State Fault Refusal := done (powerOn s)

/-- LINE_RESET (R24, R212 and the reset rule of each chapter). -/
def execLineReset (s : State) : Host.Outcome State Fault Refusal := done (lineResetState s)

end Sys2Proof.Machine
end

