-- ==== Sys2Proof/Machine/PeriodEvents.lean ====
section
/-!
DEFINITION. The demand period's expiry (R26, R43, R90) and the rows that name what its counts may reach.
-/

namespace Sys2Proof.Machine

/-- The lines are sampled and the period timer starts again. -/
def beginPeriod (closed : PerAxle Bool) (s : State) : State :=
  (s.withPins { s.pins with axleLines := closed }).withClock { s.clock with period := demandPeriod }

/-- The first expiry after a reset tests the passenger emergency loop and arms the brake line (R90). -/
def armLine (s : State) : State :=
  if s.emerg.armed then s
  else
    let s1 := if s.pins.passengerClosed then s else setSource .loop s
    s1.withEmerg { s1.emerg with armed := true }

/-- What the speed unit's update brings in the other units, before the shaper computes (log 12): arming (R90), vigilance (R85),
the junction unit (R105 to R108), the departure (R151) and SEVERED (R193). -/
def afterUpdate (s : State) : State :=
  severedPeriod (testDeparture (junctionPeriod (testVigilance (armLine s))))

/-- PERIOD_UPDATE: the demand period timer expires (R26, R43). -/
def execPeriodUpdate (closed : PerAxle Bool) (s : State) : Host.Outcome State Fault Refusal :=
  done (shaperPeriod (afterUpdate (speedUpdate closed (beginPeriod closed s))))

/-! ### The counts of the period update (log 3) -/

/-- The health of one channel changes, with what follows (R32, R33). -/
def changeHealth (c : Axle) (h : Health) (s : State) : State :=
  applyHealth (axleSet (healthOf s.speed.axles) c h) s

/-- A run of a channel that was HEALTHY or not reaches its end, and the channel takes the health `h`: where the tests of stage 3,
on the speeds, lines, v_ref and health as the last update left them, give it that health (R28 to R31; log 3). -/
def endRun (c : Axle) (wasHealthy : Bool) (h : Health) (s : State) : State :=
  if (axleGet s.speed.axles c).isHealthy = wasHealthy ∧ nextHealth s.speed.axles s.speed.vRef c = h then changeHealth c h s
  else s

/-- ZERO_RUN_FAULT: the zero run of a HEALTHY channel reaches 20 (R28). A channel whose open run reaches 20 as well faults with
cause OPEN (R29), and the last HEALTHY channel never meets the zero test. -/
def execZeroRunFault (c : Axle) (s : State) : Host.Outcome State Fault Refusal := done (endRun c true (.faulted .zero 0) s)

/-- OPEN_RUN_FAULT: the open run of a HEALTHY channel reaches 20 (R29). -/
def execOpenRunFault (c : Axle) (s : State) : Host.Outcome State Fault Refusal :=
  done (endRun c true (.faulted .open 0) s)

/-- RECOVERY_RUN_COMPLETE: the recovery run of a FAULTED channel reaches 250 (R30, R31). -/
def execRecoveryRunComplete (c : Axle) (s : State) : Host.Outcome State Fault Refusal :=
  done (endRun c false (.healthy 0 0) s)

/-- STANDSTILL_BEGINS: the low run reaches 25 (R36). -/
def execStandstillBegins (s : State) : Host.Outcome State Fault Refusal :=
  done (if s.speed.reference.isSome ∧ s.speed.vRef < 5 ∧ standstillRun ≤ s.speed.lowRun + 1 then lowPeriod s else s)

/-- The slip difference of a computation on the speeds as the last update left them (R59, R60; log 3). -/
def differenceNow (s : State) : Int := slipDifference (startComputation s)

/-- CALM_RUN_COMPLETE: the calm run reaches 5 in SLIP with a calm difference (R62); a STABLED part keeps it (R66). -/
def execCalmRunComplete (s : State) : Host.Outcome State Fault Refusal :=
  done (if s.isStabled = false ∧ s.shaper.adhesion = .slip ∧ differenceNow s < 5 ∧ calmRun ≤ s.shaper.calm + 1 then
      calmComplete s
    else s)

/-- ADHESION_BACK_TO_GRIP: the cap reaches 100 in RECOVER without a detection (R63); a STABLED part keeps it (R66). -/
def execAdhesionBackToGrip (s : State) : Host.Outcome State Fault Refusal :=
  done (if s.isStabled = false ∧ s.shaper.adhesion = .recover ∧ differenceNow s ≤ 15 ∧ 100 ≤ s.shaper.cap + 2 then
      backToGrip s
    else s)

/-- The entries that reach their age leave the history (R64). -/
def dropOld (s : State) : State :=
  s.withShaper { s.shaper with history := s.shaper.history.filter fun age => decide (age + 1 < historyAge) }

/-- SLIP_HISTORY_ENTRY_EXPIRES: an entry reaches age 250 (R64). -/
def execSlipHistoryEntryExpires (s : State) : Host.Outcome State Fault Refusal :=
  done (if s.shaper.history.any fun age => decide (historyAge ≤ age + 1) then countHistory (dropOld s) else s)

/-- DWELL_RUNS_DOWN: the dwell counter reaches 0, and no dwell sign is held (R54); a STABLED part keeps it (R66). -/
def execDwellRunsDown (s : State) : Host.Outcome State Fault Refusal :=
  done (if s.isStabled = false ∧ s.shaper.dwell = 1 then s.withShaper { s.shaper with dwell := 0, dwellSign := none }
    else s)

end Sys2Proof.Machine
end

