-- ==== Sys2Proof/Machine/TimerEvents.lean ====
section
/-!
DEFINITION. The timers of the authority, emergency, junction and consist units, and the rows of distances reached.
-/

namespace Sys2Proof.Machine

/-- PARK_TIMER_EXPIRES (R10). -/
def execParkTimerExpires (s : State) : Host.Outcome State Fault Refusal := done (parkExpires s)

/-- INTENT_TIMER_EXPIRES (R17). -/
def execIntentTimerExpires (s : State) : Host.Outcome State Fault Refusal :=
  done (match s.auth.record with
    | .claiming i => endClaim i .noPartner s
    | .dark => s
    | .active _ => s
    | .parked _ _ => s
    | .remote => s
    | .stabled _ => s)

/-- Whether the settle timer runs (R82). -/
def settleRuns (s : State) : Bool := s.emerg.settle.isSome && decide (s.emerg.demands.target < s.emerg.divisor)

/-- SETTLE_TIMER_EXPIRES (R82). -/
def execSettleTimerExpires (s : State) : Host.Outcome State Fault Refusal :=
  done (if settleRuns s then stepDown s else s)

/-- The time timer counts: running in QUIET with the hold HELD (R87). -/
def timeCounts (s : State) : Bool :=
  s.emerg.running && s.holdHeld && (match s.emerg.vigil with
    | .quiet _ => true
    | .warningHold _ => false
    | .warningTime _ => false
    | .penalty => false)

/-- TIME_TIMER_EXPIRES: WARNING with cause TIME (R87). -/
def execTimeTimerExpires (s : State) : Host.Outcome State Fault Refusal :=
  done (if timeCounts s then requestWarn (setVigil (.warningTime warningTime) s) else s)

/-- GRACE_TIMER_EXPIRES: PENALTY from WARNING with cause HOLD (R86, R88). -/
def execGraceTimerExpires (s : State) : Host.Outcome State Fault Refusal :=
  done (match s.emerg.vigil with
    | .warningHold _ => if s.emerg.running then enterPenalty s else s
    | .quiet _ => s
    | .warningTime _ => s
    | .penalty => s)

/-- WARNING_TIMER_EXPIRES: PENALTY from WARNING with cause TIME (R87, R88). -/
def execWarningTimerExpires (s : State) : Host.Outcome State Fault Refusal :=
  done (match s.emerg.vigil with
    | .warningTime _ => if s.emerg.running then enterPenalty s else s
    | .quiet _ => s
    | .warningHold _ => s
    | .penalty => s)

/-- Apply an effect to the record of a junction where it passes a test. -/
def onRecord (j : Nat) (test : JunctionRecord → Bool) (effect : JunctionRecord → State → State) (s : State) :
    State :=
  match s.record j with
  | some x => if test x then effect x s else s
  | none => s

/-- Whether a record's report timer runs (R103). -/
def JunctionRecord.reports (x : JunctionRecord) : Bool := decide (x.state = .requested) && x.reportTimer.isSome

/-- REPORT_TIMER_EXPIRES (R103). -/
def execReportTimerExpires (junction : Nat) (s : State) : Host.Outcome State Fault Refusal :=
  done (onRecord junction JunctionRecord.reports noReport s)

/-- Whether a record's re-request timer runs (R102). -/
def JunctionRecord.reRequests (x : JunctionRecord) : Bool := x.reTimer.isSome

/-- RE_REQUEST_TIMER_EXPIRES (R102). -/
def execReRequestTimerExpires (junction : Nat) (s : State) : Host.Outcome State Fault Refusal :=
  done (onRecord junction JunctionRecord.reRequests reRequest s)

/-- HOLD_TIMER_EXPIRES: the enquiry slot becomes FREE (R116). -/
def execHoldTimerExpires (s : State) : Host.Outcome State Fault Refusal := done (setEnquiry .free s)

/-- Whether a record is not ON_POINT and its remaining distance has run out (R106). -/
def reachedPoint (odo : Count24) (x : JunctionRecord) : Bool :=
  decide (x.state ≠ .onPoint) && decide (x.r odo ≤ 0)

/-- POINT_REACHED_BY_DISTANCE (R106). -/
def execPointReachedByDistance (junction : Nat) (s : State) : Host.Outcome State Fault Refusal :=
  done (onRecord junction (reachedPoint s.speed.odometer) enterPoint s)

/-- OVERFLOW_REACHED_BY_DISTANCE (R107). -/
def execOverflowReachedByDistance (s : State) : Host.Outcome State Fault Refusal := done (overflowReached s)

/-- JUNCTION_PASSED (R108). -/
def execJunctionPassed (junction : Nat) (s : State) : Host.Outcome State Fault Refusal :=
  done (onRecord junction (hasCleared s) passRecord s)

/-- DEPARTURE_COMPLETES (R151). -/
def execDepartureCompletes (s : State) : Host.Outcome State Fault Refusal := done (testDeparture s)

/-- PARTNER_TIMER_EXPIRES (R192). -/
def execPartnerTimerExpires (s : State) : Host.Outcome State Fault Refusal :=
  done (if s.consist.timer.isSome then partnerLost s else s)

end Sys2Proof.Machine
end

