-- ==== Sys2Proof/Machine/WaysideEvents.lean ====
section
/-!
DEFINITION. Markers and telegrams received, and the end of a transmission (chapter 6).
-/

namespace Sys2Proof.Machine

/-- A marker or telegram reaches the transceiver: discarded unchecked while STABLED, failed where it is not sound (R119, R122),
else acted on. -/
def receive (sound : Bool) (act : State → State) (s : State) : State :=
  if s.isStabled then s else if sound then act s else raiseFlag .waysideCheck s

/-- A marker is acted on while the record is ACTIVE, PARKED or CLAIMING (R94, R120). -/
def whereActed (act : State → State) (s : State) : State := if s.actsOnMarkers then act s else s

/-- REQUEST_MARKER (R95, R96). -/
def execRequestMarker (junction : Nat) (s : State) : Host.Outcome State Fault Refusal :=
  done (receive (numberOk junction) (whereActed (requestMarker junction)) s)

/-- ENTRY_MARKER (R106, R107). -/
def execEntryMarker (junction : Nat) (s : State) : Host.Outcome State Fault Refusal :=
  done (receive (numberOk junction) (whereActed (entryMarker junction)) s)

/-- Whether a near-side request waits: the stop state is REQUESTED or AT_STOP (R133). -/
def stopAhead (s : State) : Bool :=
  decide (s.stop.own.phase = .requested) || decide (s.stop.own.phase = .atStop)

/-- A SIGNAL marker is acted on (R133). -/
def signalMarker (crossing : Nat) (nearSide : Bool) (s : State) : State :=
  if nearSide && stopAhead s then holdPriority ⟨crossing, s.vl.priorityClass⟩ s
  else offerPriority ⟨crossing, s.vl.priorityClass⟩ s

/-- SIGNAL_MARKER (R133). -/
def execSignalMarker (crossing : Nat) (nearSide : Bool) (s : State) : Host.Outcome State Fault Refusal :=
  done (receive (numberOk crossing) (whereActed (signalMarker crossing nearSide)) s)

/-- MARKER_CHECK_FAILED (R119). -/
def execMarkerCheckFailed (s : State) : Host.Outcome State Fault Refusal := done (receive false id s)

/-- POINT_REPORT (R99, R100, R116, R122). -/
def execPointReport (junction : Nat) (position : Position) (lock : Lock) (s : State) :
    Host.Outcome State Fault Refusal :=
  done (receive (numberOk junction && lock.ok) (takeReport junction position lock) s)

/-- An acknowledgement naming the own vehicle (R135). -/
def takeAck (crossing : Nat) (s : State) : State :=
  appendEvent (.priorityGranted crossing) (s.withWayside { s.wayside with
    acked := some (crossing, 0)
    sp := s.wayside.sp.filter fun r => decide (r.crossing ≠ crossing) })

/-- PRIORITY_ACK: acted on where it names the own vehicle, else discarded (R122, R135). -/
def execPriorityAck (crossing vehicle : Nat) (s : State) : Host.Outcome State Fault Refusal :=
  done (receive (numberOk crossing)
    (fun t => if vehicle = t.vl.vehicleNumber then takeAck crossing t else t) s)

/-- TELEGRAM_DISCARDED: a failed telegram raises WAYSIDE_CHECK, one of another tram raises nothing (R122). -/
def execTelegramDiscarded (failed : Bool) (s : State) : Host.Outcome State Fault Refusal :=
  done (receive (!failed) id s)

/-- TX_DONE: the transmitter becomes IDLE, and the next grant is made (R131). -/
def execTxDone (s : State) : Host.Outcome State Fault Refusal :=
  done (if s.wayside.sending.isSome then arbitrate (s.withWayside { s.wayside with sending := none }) else s)

end Sys2Proof.Machine
end

