-- ==== Sys2Proof/Machine/StopEvents.lean ====
section
/-!
DEFINITION. The samples of the request lines, presses, stuck lines and auto-open pulses (chapter 7).
-/

namespace Sys2Proof.Machine

/-- Where a press goes (R142): a wake source while STABLED, forwarded while REMOTE, else the local stop state. -/
def takePress (d : Fin 8) (c : PressClass) (s : State) : State :=
  if s.isStabled then tryWake .press s
  else if s.isRemote then pressRemote d c s
  else pressOwn d c s

/-- A press is taken on a line (R140, R142). -/
def pressLine (n : Fin 32) (s : State) : State :=
  match (s.stop.lines[n]).cls.press with
  | some c => takePress (s.stop.lines[n]).door c s
  | none => s

/-- A line becomes STUCK (R141). -/
def stickLine (n : Fin 32) (s : State) : State := appendEvent (.buttonStuck n (s.stop.lines[n]).door) s

/-- One sample of one line (R140, R141). -/
def sampleLine (active : Bool) (n : Fin 32) (s : State) : State :=
  let r := (s.stop.lines[n]).sample active
  match r.2 with
  | .nothing => setLine n r.1 s
  | .press => pressLine n (setLine n r.1 s)
  | .stuck => stickLine n (setLine n r.1 s)

/-- The samples of the lines of a list in its order. -/
def sampleLines (samples : BitVec 32) : List (Fin 32) → State → State
  | [], s => s
  | n :: ns, s => sampleLines samples ns (sampleLine (samples.getLsbD n.val) n s)

/-- The lines in increasing order of their number. -/
def allLines : List (Fin 32) := List.finRange 32

/-- SAMPLING_TIMER_EXPIRES (R140). -/
def execSamplingTimerExpires (samples : BitVec 32) (s : State) : Host.Outcome State Fault Refusal :=
  done (sampleLines samples allLines
    ((s.withPins { s.pins with requests := samples }).withClock { s.clock with sampling := samplingPeriod }))

/-- STOP_REQUEST_PRESS: a line completes its debounce (R140, R142; log 3). -/
def execStopRequestPress (line : Fin 32) (s : State) : Host.Outcome State Fault Refusal :=
  done (if (s.stop.lines[line]).cls ≠ .off ∧ (s.stop.lines[line]).state = .counting ∧
        pressRun ≤ (s.stop.lines[line]).activeRun + 1 then
      pressLine line (setLine line (s.stop.lines[line]).pressed s)
    else s)

/-- BUTTON_STUCK: a HELD line reaches an active run of 1000 (R141; log 3). -/
def execButtonStuck (line : Fin 32) (s : State) : Host.Outcome State Fault Refusal :=
  done (if (s.stop.lines[line]).state = .held ∧ stuckRun ≤ (s.stop.lines[line]).activeRun + 1 then
      stickLine line (setLine line (s.stop.lines[line]).stick s)
    else s)

/-- STUCK_LINE_FREED: a STUCK line reaches an inactive run of 100 (R140, R141; log 3). -/
def execStuckLineFreed (line : Fin 32) (s : State) : Host.Outcome State Fault Refusal :=
  done (if (s.stop.lines[line]).state = .stuck ∧ freedRun ≤ (s.stop.lines[line]).inactiveRun + 1 then
      setLine line (s.stop.lines[line]).rest s
    else s)

/-- AUTO_OPEN_PULSE_EXPIRES (R148), whatever time is left of the pulse (log 2). -/
def execAutoOpenPulseExpires (door : Fin 8) (s : State) : Host.Outcome State Fault Refusal :=
  done (s.withStop { s.stop with pulses := s.stop.pulses.set door none })

end Sys2Proof.Machine
end

