-- ==== Sys2Proof/Machine/SoundEvents.lean ====
section
/-!
DEFINITION. The timers of the sound unit (sections 8.4 and 8.7).
-/

namespace Sys2Proof.Machine

/-- SOUND_STEP_EXPIRES: the time left in a playing entry's step expires (R169, R175). -/
def execSoundStepExpires (k : Speaker) (s : State) : Host.Outcome State Fault Refusal :=
  done (s.withSound { s.sound with
    channels := s.sound.channels.set k ((s.sound.channels.get k).advance s.sound.patterns) })

/-- HORN_ON_TIME_LIMIT: the horn is forced OFF (R177). Queued by the outside, the row acts whenever the output is ON, whatever the
on-time shows: DESIGN CHOICE (log 2). -/
def execHornOnTimeLimit (s : State) : Host.Outcome State Fault Refusal :=
  done (if (soundOutputs s).horn = .off then s
    else s.withSound { s.sound with forcedOff := some forcedOffTime, hornOn := 0 })

/-- FORCED_OFF_TIMER_EXPIRES: the output follows the current step again, the on-time starts at 0 (R177, R178). -/
def execForcedOffTimerExpires (s : State) : Host.Outcome State Fault Refusal :=
  done (if s.sound.forcedOff.isSome then s.withSound { s.sound with forcedOff := none, hornOn := 0 } else s)

end Sys2Proof.Machine
end

