-- ==== Sys2Proof/Machine/Dispatch.lean ====
section
/-! DEFINITION. One arm for each command of the opcode table. -/

namespace Sys2Proof.Machine

def exec (i : Instr) (s : State) : Host.Outcome State Fault Refusal :=
  match i with
  | .claim p => Sys2Proof.Machine.execClaim p s
  | .release p => Sys2Proof.Machine.execRelease p s
  | .emergencyReset p => Sys2Proof.Machine.execEmergencyReset p s
  | .doorRelease p => Sys2Proof.Machine.execDoorRelease p s
  | .doorClose p => Sys2Proof.Machine.execDoorClose p s
  | .assistAck p => Sys2Proof.Machine.execAssistAck p s
  | .selectLeg p => Sys2Proof.Machine.execSelectLeg p s
  | .cancelLeg p => Sys2Proof.Machine.execCancelLeg p s
  | .permit p => Sys2Proof.Machine.execPermit p s
  | .enquirePoint p => Sys2Proof.Machine.execEnquirePoint p s
  | .planAppend p => Sys2Proof.Machine.execPlanAppend p s
  | .planClear p => Sys2Proof.Machine.execPlanClear p s
  | .readEvent p => Sys2Proof.Machine.execReadEvent p s
  | .applyEmergency p => Sys2Proof.Machine.execApplyEmergency p s
  | .releaseCommandSource p => Sys2Proof.Machine.execReleaseCommandSource p s
  | .sendTelegram p => Sys2Proof.Machine.execSendTelegram p s
  | .configureVehicleNumber p => Sys2Proof.Machine.execConfigureVehicleNumber p s
  | .configureRank p => Sys2Proof.Machine.execConfigureRank p s
  | .configureLength p => Sys2Proof.Machine.execConfigureLength p s
  | .configurePulseLength p => Sys2Proof.Machine.execConfigurePulseLength p s
  | .configureInputMapLine p => Sys2Proof.Machine.execConfigureInputMapLine p s
  | .configurePatternHead p => Sys2Proof.Machine.execConfigurePatternHead p s
  | .configurePatternSteps p => Sys2Proof.Machine.execConfigurePatternSteps p s
  | .configureVigilanceAction p => Sys2Proof.Machine.execConfigureVigilanceAction p s
  | .configureSourceLevel p => Sys2Proof.Machine.execConfigureSourceLevel p s
  | .configureBandMonitor p => Sys2Proof.Machine.execConfigureBandMonitor p s
  | .stable p => Sys2Proof.Machine.execStable p s
  | .wake p => Sys2Proof.Machine.execWake p s
  | .soundTest p => Sys2Proof.Machine.execSoundTest p s
  | .clearFlags p => Sys2Proof.Machine.execClearFlags p s
  | .setNoticeMask p => Sys2Proof.Machine.execSetNoticeMask p s
  | .forceFlags p => Sys2Proof.Machine.execForceFlags p s
  | .unknownKind p => Sys2Proof.Machine.execUnknownKind p s
  | .commandArrival p kind tag payload => Sys2Proof.Machine.execCommandArrival p kind tag payload s
  | .cabState e lever deadman ack bell horn => Sys2Proof.Machine.execCabState e lever deadman ack bell horn s
  | .vehicleState ceiling priorityClass quiet derate => Sys2Proof.Machine.execVehicleState ceiling priorityClass quiet derate s
  | .consistPage coupler tag payload => Sys2Proof.Machine.execConsistPage coupler tag payload s
  | .badFrame p => Sys2Proof.Machine.execBadFrame p s
  | .frameDiscarded p malformed => Sys2Proof.Machine.execFrameDiscarded p malformed s
  | .silenceTimerExpires p => Sys2Proof.Machine.execSilenceTimerExpires p s
  | .transmitEntryLeaves p => Sys2Proof.Machine.execTransmitEntryLeaves p s
  | .cabDisplayDue e => Sys2Proof.Machine.execCabDisplayDue e s
  | .vehicleReportDue => Sys2Proof.Machine.execVehicleReportDue s
  | .consistFrameDue => Sys2Proof.Machine.execConsistFrameDue s
  | .keyOff e => Sys2Proof.Machine.execKeyOff e s
  | .keyOn e => Sys2Proof.Machine.execKeyOn e s
  | .doorLoopOpens => Sys2Proof.Machine.execDoorLoopOpens s
  | .doorLoopCloses => Sys2Proof.Machine.execDoorLoopCloses s
  | .passengerLoopOpens => Sys2Proof.Machine.execPassengerLoopOpens s
  | .passengerLoopCloses => Sys2Proof.Machine.execPassengerLoopCloses s
  | .axlePulse c => Sys2Proof.Machine.execAxlePulse c s
  | .powerOnReset => Sys2Proof.Machine.execPowerOnReset s
  | .lineReset => Sys2Proof.Machine.execLineReset s
  | .periodUpdate closed => Sys2Proof.Machine.execPeriodUpdate closed s
  | .zeroRunFault c => Sys2Proof.Machine.execZeroRunFault c s
  | .openRunFault c => Sys2Proof.Machine.execOpenRunFault c s
  | .recoveryRunComplete c => Sys2Proof.Machine.execRecoveryRunComplete c s
  | .standstillBegins => Sys2Proof.Machine.execStandstillBegins s
  | .calmRunComplete => Sys2Proof.Machine.execCalmRunComplete s
  | .adhesionBackToGrip => Sys2Proof.Machine.execAdhesionBackToGrip s
  | .slipHistoryEntryExpires => Sys2Proof.Machine.execSlipHistoryEntryExpires s
  | .dwellRunsDown => Sys2Proof.Machine.execDwellRunsDown s
  | .parkTimerExpires => Sys2Proof.Machine.execParkTimerExpires s
  | .intentTimerExpires => Sys2Proof.Machine.execIntentTimerExpires s
  | .settleTimerExpires => Sys2Proof.Machine.execSettleTimerExpires s
  | .timeTimerExpires => Sys2Proof.Machine.execTimeTimerExpires s
  | .graceTimerExpires => Sys2Proof.Machine.execGraceTimerExpires s
  | .warningTimerExpires => Sys2Proof.Machine.execWarningTimerExpires s
  | .reportTimerExpires junction => Sys2Proof.Machine.execReportTimerExpires junction s
  | .reRequestTimerExpires junction => Sys2Proof.Machine.execReRequestTimerExpires junction s
  | .holdTimerExpires => Sys2Proof.Machine.execHoldTimerExpires s
  | .pointReachedByDistance junction => Sys2Proof.Machine.execPointReachedByDistance junction s
  | .overflowReachedByDistance => Sys2Proof.Machine.execOverflowReachedByDistance s
  | .junctionPassed junction => Sys2Proof.Machine.execJunctionPassed junction s
  | .departureCompletes => Sys2Proof.Machine.execDepartureCompletes s
  | .requestMarker junction => Sys2Proof.Machine.execRequestMarker junction s
  | .entryMarker junction => Sys2Proof.Machine.execEntryMarker junction s
  | .signalMarker crossing nearSide => Sys2Proof.Machine.execSignalMarker crossing nearSide s
  | .markerCheckFailed => Sys2Proof.Machine.execMarkerCheckFailed s
  | .pointReport junction position lock => Sys2Proof.Machine.execPointReport junction position lock s
  | .priorityAck crossing vehicle => Sys2Proof.Machine.execPriorityAck crossing vehicle s
  | .telegramDiscarded failed => Sys2Proof.Machine.execTelegramDiscarded failed s
  | .txDone => Sys2Proof.Machine.execTxDone s
  | .samplingTimerExpires samples => Sys2Proof.Machine.execSamplingTimerExpires samples s
  | .stopRequestPress line => Sys2Proof.Machine.execStopRequestPress line s
  | .buttonStuck line => Sys2Proof.Machine.execButtonStuck line s
  | .stuckLineFreed line => Sys2Proof.Machine.execStuckLineFreed line s
  | .autoOpenPulseExpires door => Sys2Proof.Machine.execAutoOpenPulseExpires door s
  | .partnerTimerExpires => Sys2Proof.Machine.execPartnerTimerExpires s
  | .soundStepExpires k => Sys2Proof.Machine.execSoundStepExpires k s
  | .hornOnTimeLimit => Sys2Proof.Machine.execHornOnTimeLimit s
  | .forcedOffTimerExpires => Sys2Proof.Machine.execForcedOffTimerExpires s
  | .configureUnknownItemType p => Sys2Proof.Machine.execConfigureUnknownItemType p s

end Sys2Proof.Machine
end

