-- ==== Sys2Proof/Machine/Own.lean ====
section
/-!
DEFINITION. What the part does by itself when no command waits: the events of its own that are due, as commands of the table, and
the passing of one character time (log 5, 6).
-/

namespace Sys2Proof.Machine

/-! ### The events that are due -/

/-- The row a CONFIGURE command is of (R205). -/
def configureRow (p : Port) (payload : List Byte) : Instr :=
  match itemOf payload with
  | some 1 => .configureVehicleNumber p
  | some 2 => .configureRank p
  | some 3 => .configureLength p
  | some 4 => .configurePulseLength p
  | some 5 => .configureInputMapLine p
  | some 6 => .configurePatternHead p
  | some 7 => .configurePatternSteps p
  | some 8 => .configureVigilanceAction p
  | some 9 => .configureSourceLevel p
  | some 10 => .configureBandMonitor p
  | _ => .configureUnknownItemType p

/-- The row a command in a FIFO is of (section 10.5). -/
def rowOf (p : Port) (c : Command) : Instr :=
  match c.kind.toNat with
  | 0x10 => .claim p
  | 0x11 => .release p
  | 0x12 => .emergencyReset p
  | 0x13 => .doorRelease p
  | 0x14 => .doorClose p
  | 0x15 => .assistAck p
  | 0x16 => .selectLeg p
  | 0x17 => .cancelLeg p
  | 0x18 => .permit p
  | 0x19 => .enquirePoint p
  | 0x20 => .planAppend p
  | 0x21 => .planClear p
  | 0x22 => .readEvent p
  | 0x23 => .applyEmergency p
  | 0x24 => .releaseCommandSource p
  | 0x25 => .sendTelegram p
  | 0x26 => configureRow p c.payload
  | 0x27 => .stable p
  | 0x28 => .wake p
  | 0x29 => .soundTest p
  | 0x2A => .clearFlags p
  | 0x2B => .setNoticeMask p
  | 0x2C => .forceFlags p
  | _ => .unknownKind p

/-- A command where a condition holds. -/
def dueIf (b : Bool) (i : Instr) : List Instr := if b then [i] else []

/-- Whether a timer that may be absent stands at zero. -/
def atZero (t : Option Nat) : Bool := decide (t = some 0)

/-- The command a port takes now, if any (R202). -/
def readyCommand (p : Port) (s : State) : List Instr :=
  if takes p s then (s.port p).commands.head?.toList.map (rowOf p) else []

/-- The due time of a port's cyclic train, as a command (R199). -/
def dueRow : Port → Instr
  | .ca => .cabDisplayDue .a
  | .cb => .cabDisplayDue .b
  | .vl => .vehicleReportDue
  | .kl => .consistFrameDue

/-- The events due at a port. -/
def readyPort (s : State) (p : Port) : List Instr :=
  readyCommand p s ++
    dueIf (!(s.port p).transmit.isEmpty && decide ((s.port p).wire = 0)) (.transmitEntryLeaves p) ++
    dueIf (atZero (s.port p).silence) (.silenceTimerExpires p) ++
    dueIf (decide ((s.port p).due = 0)) (dueRow p)

/-- The timers of the authority record that stand at zero (R10, R17). -/
def readyRecord (r : Record) : List Instr :=
  match r with
  | .parked _ t => dueIf (decide (t = 0)) .parkTimerExpires
  | .claiming i =>
    dueIf (decide (i.timer = 0)) .intentTimerExpires ++
      (match i.previous with
        | .parked _ t => dueIf (decide (t = 0)) .parkTimerExpires
        | .dark => [])
  | .dark => []
  | .active _ => []
  | .remote => []
  | .stabled _ => []

/-- The timer of the vigilance monitor that stands at its end (R86, R87). -/
def readyVigil (s : State) : List Instr :=
  if s.emerg.running then
    match s.emerg.vigil with
    | .quiet t => dueIf (timeCounts s && decide (vigilanceTime ≤ t)) .timeTimerExpires
    | .warningHold t => dueIf (decide (t = 0)) .graceTimerExpires
    | .warningTime t => dueIf (decide (t = 0)) .warningTimerExpires
    | .penalty => []
  else []

/-- The timers of a record of the junction table that stand at zero (R102, R103). -/
def readyJunction (x : JunctionRecord) : List Instr :=
  dueIf (x.reports && atZero x.reportTimer) (.reportTimerExpires x.junction) ++
    dueIf (atZero x.reTimer) (.reRequestTimerExpires x.junction)

/-- The hold timer of the enquiry slot at zero (R116). -/
def readyEnquiry (q : Enquiry) : List Instr :=
  match q with
  | .free => []
  | .waiting _ t => dueIf (decide (t = 0)) .holdTimerExpires
  | .ready _ _ t => dueIf (decide (t = 0)) .holdTimerExpires

/-- The step timer of a sound channel at zero (R169). -/
def readyChannel (s : State) (k : Speaker) : List Instr :=
  dueIf ((s.sound.channels.get k).playing.isSome && decide ((s.sound.channels.get k).left = 0)) (.soundStepExpires k)

/-- Every event of the part's own that is due. -/
def ready (s : State) : List Instr :=
  allPorts.flatMap (readyPort s) ++ readyRecord s.auth.record ++
    dueIf (settleRuns s && atZero s.emerg.settle) .settleTimerExpires ++ readyVigil s ++
    s.junction.records.flatMap readyJunction ++ readyEnquiry s.junction.enquiry ++
    dueIf (decide (s.wayside.sending.map (·.left) = some 0)) .txDone ++
    ownDoors.flatMap (fun d => dueIf (atZero s.stop.pulses[d]) (.autoOpenPulseExpires d)) ++
    allSpeakers.flatMap (readyChannel s) ++
    dueIf (decide ((soundOutputs s).horn ≠ .off) && decide (hornLimit ≤ s.sound.hornOn)) .hornOnTimeLimit ++
    dueIf (atZero s.sound.forcedOff) .forcedOffTimerExpires ++
    dueIf (atZero s.consist.timer) .partnerTimerExpires ++
    dueIf (decide (s.clock.period = 0)) (.periodUpdate s.pins.axleLines) ++
    dueIf (decide (s.clock.sampling = 0)) (.samplingTimerExpires s.pins.requests)

/-! ### The passing of time -/

/-- The largest age in ms that is told apart (section 10.10; log 18). -/
def ageLimit : Nat := 65535

/-- An age one millisecond later. -/
def older (n : Nat) : Nat := min ageLimit (n + 1)

/-- A timer that may be absent, one millisecond later. -/
def sooner (t : Option Nat) : Option Nat := t.map (· - 1)

/-- A report one millisecond older. -/
def Report.older (r : Report) : Report := { r with age := Machine.older r.age }

/-- The previous state of an intent one millisecond later: the park timer runs on (R13). -/
def Previous.later : Previous → Previous
  | .dark => .dark
  | .parked e t => .parked e (t - 1)

/-- The authority record one millisecond later. -/
def Record.later : Record → Record
  | .parked e t => .parked e (t - 1)
  | .claiming i => .claiming { i with timer := i.timer - 1, previous := i.previous.later }
  | .dark => .dark
  | .active e => .active e
  | .remote => .remote
  | .stabled n => .stabled n

/-- The vigilance monitor's timers one millisecond later; the time timer counts in QUIET with the hold HELD. -/
def Vigil.later (counts : Bool) : Vigil → Vigil
  | .quiet t => .quiet (if counts then t + 1 else t)
  | .warningHold t => .warningHold (t - 1)
  | .warningTime t => .warningTime (t - 1)
  | .penalty => .penalty

/-- A junction record one millisecond later. -/
def JunctionRecord.later (x : JunctionRecord) : JunctionRecord :=
  { x with
    lastReport := x.lastReport.map Report.older
    reportTimer := sooner x.reportTimer
    reTimer := sooner x.reTimer }

/-- The enquiry slot one millisecond later. -/
def Enquiry.later : Enquiry → Enquiry
  | .free => .free
  | .waiting j t => .waiting j (t - 1)
  | .ready j r t => .ready j r.older (t - 1)

/-- A port one millisecond later. -/
def PortState.later (p : PortState) : PortState := { p with silence := sooner p.silence, due := p.due - 1 }

/-- A sound channel one millisecond later. -/
def SoundChannel.later (ch : SoundChannel) : SoundChannel := { ch with left := ch.left - 1 }

/-- The part one millisecond later: every timer runs down, every age grows, the millisecond counter advances. -/
def passMillisecond (s : State) : State :=
  { s with
    auth := { s.auth with record := s.auth.record.later }
    emerg := { s.emerg with settle := sooner s.emerg.settle, vigil := s.emerg.vigil.later (timeCounts s) }
    junction := { s.junction with
      records := s.junction.records.map JunctionRecord.later, enquiry := s.junction.enquiry.later }
    wayside := { s.wayside with
      sending := s.wayside.sending.map fun t => { t with left := t.left - 1 }
      acked := s.wayside.acked.map fun a => (a.1, older a.2) }
    stop := { s.stop with pulses := s.stop.pulses.map sooner }
    sound := { s.sound with
      channels := s.sound.channels.map SoundChannel.later
      hornOn := if (soundOutputs s).horn = .off then s.sound.hornOn else s.sound.hornOn + 1
      forcedOff := sooner s.sound.forcedOff }
    consist := { s.consist with timer := sooner s.consist.timer }
    ports := ⟨s.ports.ca.later, s.ports.cb.later, s.ports.vl.later, s.ports.kl.later⟩
    clock := { s.clock with
      ms := s.clock.ms + 1, phase := 0, period := s.clock.period - 1, sampling := s.clock.sampling - 1 } }

/-- The character times of a millisecond: a character takes 20 microseconds (section 10.1). -/
def charactersPerMs : Nat := 50

/-- A port's transmitter one character time later. -/
def PortState.send (p : PortState) : PortState := { p with wire := p.wire - 1 }

/-- The part one character time later (log 5). -/
def tick (s : State) : State :=
  let s1 := s.withPorts ⟨s.ports.ca.send, s.ports.cb.send, s.ports.vl.send, s.ports.kl.send⟩
  if charactersPerMs ≤ s.clock.phase + 1 then passMillisecond s1
  else s1.withClock { s.clock with phase := s.clock.phase + 1 }

end Sys2Proof.Machine
end

