-- ==== Sys2Proof/Machine/Step.lean ====
section
/-!
DEFINITION. The step: the command at the front of the queue, else an event of the part's own that is due, else the passing of
one character time (log 5); and the placing of a table word, which spells no command (log 24).
-/

namespace Sys2Proof.Machine

/-- The part with no command waiting: one of its own events that is due, chosen by a free value where several are (log 6), or
one character time. -/
def idle (s : State) : Host.Outcome State Fault Refusal :=
  match ready s with
  | c :: cs => exec (chooseFrom s c cs).1 (chooseFrom s c cs).2
  | [] => done (tick s)

/-- One step: the command at the front of the queue with the queue's rest, or the idle part. -/
def step (s : State) : Host.Outcome State Fault Refusal :=
  match s.pending with
  | c :: rest => exec c (s.withPending rest)
  | [] => idle s

/-- The command a table word spells put at the front of the queue; the table gives no bits, so no word spells one (log 24). -/
def State.withFetchWord (s : State) (nbits w : Nat) : State :=
  match Sys2Proof.decodeTableWord nbits w with
  | some c => s.withPending (c :: s.pending)
  | none => s

end Sys2Proof.Machine
end

