-- ==== Sys2Proof/Safety.lean ====
section
/-!
DEFINITION. The terms the claims use: which parts of the state a command may change, when a command waits at a port, and the
invariants of the machine.
-/

namespace Sys2Proof.Machine

/-! ### Parts of the state, for frames -/

/-- The parts of the state a frame speaks of. -/
inductive Part where
  | pins
  | outputs
  | record
  | exchange
  | slots
  | speed
  | shaper
  | latch
  | commandHold
  | armed
  | ladder
  | vigilance
  | vigilanceSetting
  | plan
  | table
  | pendingItems
  | enquiry
  | pointWarn
  | queues
  | levels
  | heldPriority
  | acked
  | lines
  | stopState
  | pulses
  | mirror
  | patterns
  | channels
  | forcedOff
  | bellItem
  | consist
  | port (p : Port)
  | assembly
  | held
  | identity
  | events
  | flags
  | owed
  | mask
  | clock
  | choices
  | pending
deriving DecidableEq, Repr

/-- A part is the same in two states. -/
def Part.same (s t : State) : Part → Prop
  | .pins => t.pins = s.pins
  | .outputs => t.outputs = s.outputs
  | .record => t.auth.record = s.auth.record
  | .exchange => t.auth.lastExchange = s.auth.lastExchange ∧ t.auth.answered = s.auth.answered
  | .slots => t.auth.slots = s.auth.slots
  | .speed => t.speed = s.speed
  | .shaper => t.shaper = s.shaper
  | .latch => t.emerg.recorded = s.emerg.recorded ∧ t.emerg.first = s.emerg.first
  | .commandHold => t.emerg.commandHold = s.emerg.commandHold
  | .armed => t.emerg.armed = s.emerg.armed
  | .ladder => t.emerg.divisor = s.emerg.divisor ∧ t.emerg.demands = s.emerg.demands ∧ t.emerg.settle = s.emerg.settle
  | .vigilance => t.emerg.vigil = s.emerg.vigil ∧ t.emerg.running = s.emerg.running ∧ t.emerg.warnedAt = s.emerg.warnedAt
  | .vigilanceSetting => t.emerg.action = s.emerg.action ∧ t.emerg.locked = s.emerg.locked
  | .plan => t.junction.plan = s.junction.plan
  | .table => t.junction.records = s.junction.records ∧ t.junction.overflow = s.junction.overflow ∧
      t.junction.tableFull = s.junction.tableFull
  | .pendingItems => t.junction.pendingLeg = s.junction.pendingLeg ∧ t.junction.pendingPermit = s.junction.pendingPermit
  | .enquiry => t.junction.enquiry = s.junction.enquiry
  | .pointWarn => t.junction.pointWarn = s.junction.pointWarn
  | .queues => t.wayside.jr = s.wayside.jr ∧ t.wayside.jq = s.wayside.jq ∧ t.wayside.sp = s.wayside.sp ∧
      t.wayside.vx = s.wayside.vx ∧ t.wayside.ptr0 = s.wayside.ptr0 ∧ t.wayside.ptr1 = s.wayside.ptr1 ∧
      t.wayside.parked = s.wayside.parked ∧ t.wayside.sending = s.wayside.sending
  | .levels => t.wayside.levels = s.wayside.levels
  | .heldPriority => t.wayside.held = s.wayside.held
  | .acked => t.wayside.acked = s.wayside.acked
  | .lines => t.stop.lines = s.stop.lines
  | .stopState => t.stop.own = s.stop.own
  | .pulses => t.stop.pulses = s.stop.pulses
  | .mirror => t.stop.mirror = s.stop.mirror ∧ t.stop.forward = s.stop.forward
  | .patterns => t.sound.patterns = s.sound.patterns
  | .channels => t.sound.channels = s.sound.channels ∧ t.sound.hornOn = s.sound.hornOn ∧ t.sound.joins = s.sound.joins
  | .forcedOff => t.sound.forcedOff = s.sound.forcedOff
  | .bellItem => t.sound.bellItem = s.sound.bellItem
  | .consist => t.consist = s.consist
  | .port p => t.port p = s.port p
  | .assembly => t.assembly = s.assembly
  | .held => t.vl.lineCeiling = s.vl.lineCeiling ∧ t.vl.priorityClass = s.vl.priorityClass ∧ t.vl.quiet = s.vl.quiet
  | .identity => t.vl.vehicleNumber = s.vl.vehicleNumber ∧ t.vl.rank = s.vl.rank ∧ t.vl.length = s.vl.length
  | .events => t.vl.events = s.vl.events
  | .flags => t.vl.flags = s.vl.flags
  | .owed => t.vl.owed = s.vl.owed
  | .mask => t.vl.mask = s.vl.mask
  | .clock => t.clock.ms = s.clock.ms ∧ t.clock.phase = s.clock.phase ∧ t.clock.period = s.clock.period ∧
      t.clock.sampling = s.clock.sampling
  | .choices => t.clock.choices = s.clock.choices
  | .pending => t.pending = s.pending

/-- From `s` to `t` nothing changes outside the parts of the list. -/
def Changes (parts : List Part) (s t : State) : Prop := ∀ p : Part, p ∉ parts → p.same s t

/-- What a trip event or a raised flag touches: the queue of events, the flags, the owed notice, and VL where the NOTICE is
queued. -/
def reporting : List Part := [.events, .flags, .owed, .port .vl]

/-- What the end of an event drives: the POINT_WARN request, the sound channels and the output lines. -/
def closing : List Part := [.pointWarn, .channels, .outputs]

/-- Nothing is left to do at the end of an event: the output lines follow the state, the POINT_WARN request stands where it is
wanted, and no NOTICE is owed that VL has room for. -/
def Settled (s : State) : Prop := settle s = s

/-! ### Reports -/

/-- The queue of trip events with one more (R207): a full queue loses its oldest entry and the new one carries GAP. -/
def logEntry (s : State) (q : List EventEntry) (e : TripEvent) : List EventEntry :=
  if q.length < 32 then q ++ [⟨e, s.clock.ms, s.speed.odometer, false⟩]
  else q.drop 1 ++ [⟨e, s.clock.ms, s.speed.odometer, true⟩]

/-- The set of a list of flags. -/
def flagSet (fs : List NoticeFlag) : Word16 := fs.foldl (fun w f => w ||| bitMask f.bit) 0

/-- The flags the append of trip events raises in a state: EVENTS_WAITING with any event, EVENT_GAP where the queue
overflows (R207). -/
def eventFlags (evs : List TripEvent) (s : State) : List NoticeFlag :=
  (if evs = [] then [] else [NoticeFlag.eventsWaiting]) ++
    (if evs ≠ [] ∧ 32 < s.vl.events.length + evs.length then [NoticeFlag.eventGap] else [])

/-- From `s` to `t` exactly these trip events were appended, in this order, and exactly these flags beside EVENTS_WAITING and
EVENT_GAP raised. -/
structure Logged (evs : List TripEvent) (more : List NoticeFlag) (s t : State) : Prop where
  events : t.vl.events = evs.foldl (logEntry s) s.vl.events
  flags : t.vl.flags = s.vl.flags ||| flagSet (more ++ eventFlags evs s)

/-- A port's state with one more entry in its transmit FIFO. -/
def PortState.withEntry (x : PortState) (e : TxEntry) : PortState :=
  { x with transmit := x.transmit ++ [e], wire := if x.transmit.isEmpty then e.wireTime else x.wire }

/-- On VL nothing changed, or one NOTICE with the flags as they now stand was queued. -/
def NoticeOnly (s t : State) : Prop :=
  t.port .vl = s.port .vl ∨ t.port .vl = (s.port .vl).withEntry (.notice t.vl.flags)

/-! ### Commands at a port -/

/-- A command waits at the head of a port's FIFO, the port may take it, and the transmit FIFO has room for a NOTICE and the
answer (R202). -/
structure Offered (p : Port) (c : Command) (s : State) : Prop where
  head : (s.port p).commands.head? = some c
  unanswered : (s.port p).unanswered = none
  heldAnswer : (s.port p).heldAnswer = none
  room : (s.port p).transmit.length + 2 ≤ 8

/-- The command has left the FIFO of its port, and this answer is the last entry of the port's transmit FIFO, before it at
most a NOTICE on VL; nothing else of the port changed (R202, R203). -/
structure Answered (p : Port) (answer : TxEntry) (s t : State) : Prop where
  taken : (t.port p).commands = (s.port p).commands.tail
  queued : (t.port p).transmit = (s.port p).transmit ++ [answer] ∨
    (p = .vl ∧ (t.port p).transmit = (s.port p).transmit ++ [.notice t.vl.flags, answer])
  kept : (t.port p).link = (s.port p).link ∧ (t.port p).silence = (s.port p).silence ∧
    (t.port p).unanswered = (s.port p).unanswered ∧ (t.port p).heldAnswer = (s.port p).heldAnswer ∧
    (t.port p).sequence = (s.port p).sequence ∧ (t.port p).due = (s.port p).due
  notice : p ≠ .vl → NoticeOnly s t

/-- The state a command or event answers with. -/
def Gives (i : Instr) (s : State) (holds : State → Prop) : Prop := ∃ t, exec i s = .next t ∧ holds t

/-- A command row `i` takes the command `c` waiting at port `p` and answers it with `answer`; beside the port only the listed
parts change, and `effect` holds of the state after. -/
def Takes (p : Port) (c : Command) (i : Instr) (s : State) (answer : TxEntry) (parts : List Part)
    (effect : State → Prop) : Prop :=
  Offered p c s → Settled s →
    Gives i s fun t => Answered p answer s t ∧ Changes (.port p :: parts) s t ∧ effect t

/-- ACCEPTED for a command, with result data. -/
def accepted (c : Command) (data : List Byte) : TxEntry := .accepted c.kind c.tag data

/-- REFUSED for a command. -/
def refusedBy (origin : Origin) (c : Command) (reason : Reason) : TxEntry := .refused c.kind c.tag reason origin

/-- A command row refuses the command waiting at a port: the answer is queued and nothing else changes. -/
def Refuses (p : Port) (c : Command) (i : Instr) (s : State) (origin : Origin) (reason : Reason) : Prop :=
  Takes p c i s (refusedBy origin c reason) [] fun _ => True

/-- An event that is no command: only the listed parts change, VL gains at most a NOTICE, and `effect` holds after. -/
def Happens (i : Instr) (s : State) (parts : List Part) (effect : State → Prop) : Prop :=
  Settled s → Gives i s fun t => NoticeOnly s t ∧ Changes parts s t ∧ effect t

/-! ### Conditions the rules name -/

/-- No partner takes part in a claim (R4, R12): SINGLE, SEVERED, or a CONFLICT that the latest frame keeps. -/
def Unpaired (s : State) : Prop :=
  s.consist.role = none ∧ (s.consist.state = .single ∨ s.consist.state = .severed ∨
    (s.consist.state = .conflict ∧ ∃ f, s.consist.latest = some f ∧ f.authority.state = .active ∧
      f.vehicle ≠ s.vl.vehicleNumber ∧ f.rank ≠ s.vl.rank))

/-- The pair is COUPLED and its latest frame keeps it so. -/
def Paired (s : State) : Prop :=
  s.consist.state = .coupled ∧ ∀ f, s.consist.latest = some f → f.vehicle ≠ s.vl.vehicleNumber ∧ f.rank ≠ s.vl.rank

/-- No record of the junction table is in ON_POINT (R4). -/
def NoneOnPoint (s : State) : Prop := ∀ x ∈ s.junction.records, x.state ≠ .onPoint

/-- The record of a claim's previous state as the claim from end `e` finds it: DARK, PARKED at the same end, or PARKED at the
other end at standstill with no record in ON_POINT (R4, R12). -/
def ClaimFrom (e : End) (s : State) : Previous → Prop
  | .dark => s.auth.record = .dark
  | .parked y n => s.auth.record = .parked y n ∧ (y = e ∨ (s.speed.standstill = true ∧ NoneOnPoint s))

/-- The remaining distance of a record in dm: ten times its request-to-point distance in m, less the distance run since its
marker (R104). -/
def runsOut (s : State) (x : JunctionRecord) : Int := 10 * x.distance - (s.speed.odometer - x.marker).toNat

/-- The nearest record: not in ON_POINT, with the smallest remaining distance, the smaller junction among equals (R110). -/
def Nearest (s : State) (x : JunctionRecord) : Prop :=
  x ∈ s.junction.records ∧ x.state ≠ .onPoint ∧
    ∀ y ∈ s.junction.records, y.state ≠ .onPoint → y = x ∨ runsOut s x < runsOut s y ∨
      (runsOut s x = runsOut s y ∧ x.junction < y.junction)

/-- JR after an offer while the radio sends (R124): in the place of an entry for the same junction, else at the tail where one
of four places is free, else unchanged. -/
def joined (e : JrEntry) (q : List JrEntry) : List JrEntry :=
  if q.any (fun x => decide (x.junction = e.junction)) then q.map fun x => if x.junction = e.junction then e else x
  else if q.length < 4 then q ++ [e] else q

/-- The rows that can write configuration: the items of CONFIGURE, and the power-on reset. -/
def configures : Instr → Bool
  | .configureVehicleNumber _ | .configureRank _ | .configureLength _ | .configurePulseLength _ | .configureInputMapLine _
  | .configurePatternHead _ | .configurePatternSteps _ | .configureVigilanceAction _ | .configureSourceLevel _
  | .configureBandMonitor _ | .powerOnReset => true
  | _ => false

/-- The configuration is the same in two states: identity, pulse length, monitor settings, input map, pattern table, vigilance
action with its lock, source levels (R24, R42, R89, R130, R139, R165, R206). -/
structure SameConfiguration (s t : State) : Prop where
  identity : t.vl.vehicleNumber = s.vl.vehicleNumber ∧ t.vl.rank = s.vl.rank ∧ t.vl.length = s.vl.length
  pulseLength : t.speed.pulseLength = s.speed.pulseLength
  monitors : ∀ i : Fin 4, t.speed.monitors[i].threshold = s.speed.monitors[i].threshold ∧
    t.speed.monitors[i].edge = s.speed.monitors[i].edge ∧ t.speed.monitors[i].pattern = s.speed.monitors[i].pattern
  inputMap : ∀ n : Fin 32, t.stop.lines[n].cls = s.stop.lines[n].cls ∧ t.stop.lines[n].door = s.stop.lines[n].door
  patterns : t.sound.patterns = s.sound.patterns
  vigilance : t.emerg.action = s.emerg.action ∧ t.emerg.locked = s.emerg.locked
  levels : t.wayside.levels = s.wayside.levels

/-- The default of a pattern: priority, repeat, and its steps with their durations in units of 10 ms (R164). -/
def defaultPattern (n : Nat) : Nat × Repeat × List PatternStep :=
  match n with
  | 0 => (3, .held, [⟨.on, 15⟩, ⟨.off, 10⟩])
  | 1 => (6, .held, [⟨.on, 100⟩])
  | 2 => (2, .times 1, [⟨.tone 5, 30⟩, ⟨.tone 3, 40⟩])
  | 3 => (5, .times 2, [⟨.tone 6, 20⟩, ⟨.off, 10⟩, ⟨.tone 6, 20⟩, ⟨.off, 30⟩])
  | 4 => (4, .times 1, [⟨.tone 4, 30⟩, ⟨.tone 2, 30⟩, ⟨.tone 4, 30⟩])
  | 5 => (6, .held, [⟨.on, 30⟩, ⟨.off, 20⟩])
  | 6 => (5, .held, [⟨.on, 10⟩, ⟨.off, 10⟩, ⟨.on, 10⟩, ⟨.off, 50⟩])
  | 7 => (7, .times 3, [⟨.on, 100⟩, ⟨.off, 50⟩])
  | _ => (0, .times 1, [⟨.off, 10⟩])

/-- The pattern table at its defaults; places beyond the step count hold OFF for 10 ms (R164). -/
def PatternsDefault (t : State) : Prop :=
  ∀ n : Fin 16, t.sound.patterns[n].priority = (defaultPattern n.val).1 ∧ t.sound.patterns[n].rep = (defaultPattern n.val).2.1 ∧
    t.sound.patterns[n].count = (defaultPattern n.val).2.2.length ∧
    ∀ i : Fin 8, t.sound.patterns[n].steps[i] = ((defaultPattern n.val).2.2[i.val]?).getD ⟨.off, 1⟩

/-- A trip event stands in the queue. -/
def Reported (event : TripEvent) (t : State) : Prop := ∃ x ∈ t.vl.events, x.event = event

/-! ### The demand computation, stage by stage (R45 to R57) -/

/-- What a computation reads, as it stands when it is made; `before` is O_prev. -/
structure DemandInputs where
  record   : Record
  slots    : End → Slot
  partner  : Option ConsistFrame
  coupled  : Bool
  lead     : Bool
  forbids  : Bool
  shut     : Bool
  standing : Bool
  v        : Nat
  c        : Nat
  divisor  : Nat
  cap      : Nat
  before   : Int

/-- The inputs read from the state after the expiry, with the O_prev the computation started from. -/
def demandInputs (before : Int) (t : State) : DemandInputs :=
  let coupled := decide (t.consist.state = .coupled)
  let partner := if coupled then t.consist.latest else none
  let lead := coupled && decide (t.consist.role = some .lead)
  { record := t.auth.record
    slots := t.slot
    partner := partner
    coupled := coupled
    lead := lead
    forbids := decide (t.consist.state = .conflict) || decide (t.consist.state = .mismatch)
    shut := !t.pins.doorClosed || t.shownStop.side1 || t.shownStop.side2 || t.shownStop.assist
    standing := t.speed.standstill
    v := t.speed.vRef
    c := min (min (if (t.port .vl).link then 800 else 250) t.vl.lineCeiling)
      (min (junctionCeiling t) (partner.elim 800 (·.ceiling)))
    divisor := if lead then partner.elim t.emerg.divisor (fun f => max t.emerg.divisor f.divisor) else t.emerg.divisor
    cap := t.shaper.cap
    before := before }

/-- The request of stage A (R45, R46). -/
def DemandInputs.ra (d : DemandInputs) : Int :=
  let asked : Int := match d.record with
    | .active e => if (d.slots e).fresh then
        (match (d.slots e).lever with
          | .number v => max (-100) (min 100 v)
          | .emergency => -100)
      else -30
    | .remote => d.partner.elim (-30) (·.rk)
    | .claiming _ => min d.before 0
    | .dark | .parked _ _ | .stabled _ => -30
  if d.forbids then min asked 0 else asked

/-- The request of stage B (R47, R48). -/
def DemandInputs.rb (d : DemandInputs) : Int :=
  let open' := if d.shut then min d.ra 0 else d.ra
  if d.standing ∧ open' ≤ 0 then min open' (-30) else open'

/-- Whether v_ref stands more than 20 above the ceiling, in a part that makes stage C (R51). -/
def DemandInputs.over (d : DemandInputs) : Bool := decide (d.record ≠ .remote) && decide (d.c + 20 < d.v)

/-- The request of stage C (R50, R51). -/
def DemandInputs.rc (d : DemandInputs) : Int :=
  let allowance : Nat := if d.v < d.c then min 100 (100 * (d.c - d.v) / 30) else 0
  let governed := if 0 < d.rb then min d.rb allowance else d.rb
  if d.over then min governed (-40) else governed

/-- The request of stage D (R52); a REMOTE part makes neither stage C nor D (R43). -/
def DemandInputs.rd (d : DemandInputs) : Int :=
  let divided := if 0 < d.rc then d.rc / (d.divisor : Int) else d.rc
  if d.record = .remote then d.rb else if d.standing ∧ divided = 0 then -30 else divided

/-- The demand moved toward a target within a period: growth by at most 4, shrinking by at most 8 (R55). -/
def within (o target : Int) : Int :=
  if o.natAbs ≤ target.natAbs then (if 0 < target then min target (o + 4) else max target (o - 4))
  else if 0 < o then max target (o - 8) else min target (o + 8)

/-- The target of stage E (R53). -/
def DemandInputs.target (d : DemandInputs) : Int :=
  if (0 < d.before ∧ d.rd < 0) ∨ (d.before < 0 ∧ 0 < d.rd) then 0 else d.rd

/-- Whether the dwell ends because the target has the dwell sign (R54). -/
def DemandInputs.resumes (d : DemandInputs) (sign : Option Bool) : Bool :=
  (decide (sign = some true) && decide (0 < d.target)) || (decide (sign = some false) && decide (d.target < 0))

/-- The demand after stages E and F, from the dwell counter and sign before them (R53 to R57). -/
def DemandInputs.o (d : DemandInputs) (dwell : Nat) (sign : Option Bool) : Int :=
  let oj := if dwell = 0 then within d.before d.target else if d.resumes sign then within 0 d.target else 0
  let capped := if 0 < oj then min oj (min (100 / d.divisor : Nat) (d.cap : Int)) else max oj (-(d.cap : Int))
  let drives := match d.record with
    | .active _ => true
    | .remote => d.coupled
    | .dark | .claiming _ | .parked _ _ | .stabled _ => false
  if 0 < capped ∧ (drives = false ∨ d.forbids = true ∨ d.shut = true) then 0 else capped

/-- The dwell counter and sign a computation with a clear latch leaves (R54). -/
def DemandInputs.dwell (d : DemandInputs) (dwell : Nat) (sign : Option Bool) : Nat × Option Bool :=
  if d.o dwell sign = 0 ∧ d.before ≠ 0 then (5, some (decide (0 < d.before)))
  else if dwell = 0 ∨ d.resumes sign = true then (0, none)
  else (dwell - 1, if dwell = 1 then none else sign)

/-! ### The arbiter (R127 to R131) -/

/-- Whether a source waits as a member of a level; VX is always at level 1 (R127, R130). -/
def waitsAt (w : Wayside) (one : Bool) : Source → Bool
  | .jr => !w.jr.isEmpty && (w.levels.jr == one)
  | .jq => !w.jq.isEmpty && (w.levels.jq == one)
  | .sp => !w.sp.isEmpty && (w.levels.sp == one)
  | .vx => !w.vx.isEmpty && one

/-- The level-1 search from the level-1 pointer (R128). -/
def slotGrant (w : Wayside) : Option Source :=
  (match w.ptr1 with
    | .jr => [Source.jr, .jq, .sp, .vx]
    | .jq => [.jq, .sp, .vx, .jr]
    | .sp => [.sp, .vx, .jr, .jq]
    | .vx => [.vx, .jr, .jq, .sp]).find? (waitsAt w true)

/-- The source the arbiter's search grants: the first waiting member of the level-0 ring from its pointer on, the SLOT standing
for the level-1 search (R128). -/
def searchGrant (w : Wayside) : Option Source :=
  let zero (src : Source) : Option Source := if waitsAt w false src then some src else none
  match w.ptr0 with
  | .jr => zero .jr <|> zero .jq <|> zero .sp <|> slotGrant w
  | .jq => zero .jq <|> zero .sp <|> slotGrant w <|> zero .jr
  | .sp => zero .sp <|> slotGrant w <|> zero .jr <|> zero .jq
  | .slot => slotGrant w <|> zero .jr <|> zero .jq <|> zero .sp

/-- What a grant of a source does (R121, R128, R131): the head entry is built and sent for 12 ms, the pointers move past the
source, the source is parked on, and the record of a granted POINT_REQUEST is marked as sent. -/
def Granted (src : Source) (s t : State) : Prop :=
  let w := s.wayside
  let moved (one : Bool) (zero : Ring0) (next : Source) : Wayside :=
    if one then { w with ptr0 := .jr, ptr1 := next, parked := src } else { w with ptr0 := zero, parked := src }
  let sends (x : Telegram) : Option Sending := some ⟨x, src, 12⟩
  let number := s.vl.vehicleNumber
  let unmarked := t.junction.records = s.junction.records
  match src with
  | .jr => ∃ e rest, w.jr = e :: rest ∧ match e with
    | .request j leg => t.wayside = { moved w.levels.jr .jq .jq with jr := rest, sending := sends (.pointRequest j number leg) } ∧
        t.junction.records = s.junction.records.map fun x => if x.junction = j then { x with sent := true } else x
    | .cancel j => t.wayside = { moved w.levels.jr .jq .jq with jr := rest, sending := sends (.pointCancel j number) } ∧ unmarked
  | .jq => ∃ j rest, w.jq = j :: rest ∧
      t.wayside = { moved w.levels.jq .sp .sp with jq := rest, sending := sends (.statusQuery j number) } ∧ unmarked
  | .sp => ∃ r rest, w.sp = r :: rest ∧ t.wayside =
      { moved w.levels.sp .slot .vx with sp := rest, sending := sends (.priorityRequest r.crossing number r.cls) } ∧ unmarked
  | .vx => ∃ b rest, w.vx = b :: rest ∧
      t.wayside = { moved true .jr .jr with vx := rest, sending := sends (.service number b) } ∧ unmarked

/-- What both resets leave, configuration apart (R24, R42, R67, R90, R118, R138, R162, R182, R195, R200, R212). -/
structure StandsReset (t : State) : Prop where
  record : t.auth.record = .dark ∧ t.auth.lastExchange = 0 ∧ t.auth.answered = none
  slots : ∀ e : End, t.slot e = ⟨.number 0, false, false, false, false, false⟩
  axles : ∀ c : Axle, (axleGet t.speed.axles c).count = 0 ∧ (axleGet t.speed.axles c).window = [0, 0, 0, 0, 0] ∧
    (axleGet t.speed.axles c).speed = 0 ∧ (axleGet t.speed.axles c).health = .healthy 0 0
  speed : t.speed.vRef = 0 ∧ t.speed.reference = some .t1 ∧ t.speed.standstill = false ∧ t.speed.lowRun = 0 ∧
    t.speed.odometer = 0 ∧ t.speed.remainder = 0 ∧ ∀ i : Fin 4, t.speed.monitors[i].above = false
  shaper : t.shaper.prev = 0 ∧ t.shaper.dwell = 5 ∧ t.shaper.dwellSign = none ∧ t.shaper.adhesion = .grip ∧
    t.shaper.cap = 100 ∧ t.shaper.calm = 0 ∧ t.shaper.history = [] ∧ t.shaper.overspeed = false ∧
    t.shaper.released = false ∧ t.shaper.frames = 0
  latch : t.emerg.recorded = 0 ∧ t.emerg.first = none ∧ t.emerg.commandHold = false ∧ t.emerg.armed = false
  ladder : t.emerg.divisor = 8 ∧ t.emerg.demands = ⟨none, none, none, none, none⟩ ∧ t.emerg.settle = some 3000
  vigilance : t.emerg.vigil = .quiet 0 ∧ t.emerg.running = false ∧ t.emerg.warnedAt = none
  junction : t.junction.plan = [] ∧ t.junction.records = [] ∧ t.junction.overflow = none ∧ t.junction.tableFull = false ∧
    t.junction.pendingLeg = none ∧ t.junction.pendingPermit = false ∧ t.junction.enquiry = .free ∧
    t.junction.pointWarn = none
  wayside : t.wayside.jr = [] ∧ t.wayside.jq = [] ∧ t.wayside.sp = [] ∧ t.wayside.vx = [] ∧ t.wayside.ptr0 = .jr ∧
    t.wayside.ptr1 = .jr ∧ t.wayside.parked = .jr ∧ t.wayside.sending = none ∧ t.wayside.held = none ∧
    t.wayside.acked = none
  lines : ∀ n : Fin 32, t.stop.lines[n].state = .idle ∧ t.stop.lines[n].activeRun = 0
  stop : t.stop.own = ⟨.none, 0, false, false, false, none, false, 0, false⟩ ∧ t.stop.mirror = none ∧
    (∀ d : Fin 8, t.stop.pulses[d] = none) ∧ ∀ d : Fin 8, t.stop.forward[d] = none
  sound : (∀ k : Speaker, t.sound.channels.get k = ⟨none, 0, []⟩) ∧ t.sound.hornOn = 0 ∧ t.sound.forcedOff = none ∧
    t.sound.bellItem = none
  consist : t.consist = ⟨.single, none, none, 0, none, none, none, none⟩
  ports : ∀ p : Port, (t.port p).link = false ∧ (t.port p).silence = none ∧ (t.port p).commands = [] ∧
    (t.port p).unanswered = none ∧ (t.port p).heldAnswer = none ∧ (t.port p).transmit = [] ∧ (t.port p).sequence = 0
  dues : (t.port .ca).due = 50 ∧ (t.port .cb).due = 50 ∧ (t.port .vl).due = 100 ∧ (t.port .kl).due = 20 ∧
    t.assembly = none
  held : t.vl.lineCeiling = 150 ∧ t.vl.priorityClass = 0 ∧ t.vl.quiet = false
  reports : t.vl.events = [] ∧ t.vl.flags = 0 ∧ t.vl.mask = 0x7FFF ∧ t.vl.owed = false
  clock : t.clock.ms = 0 ∧ t.clock.period = 20 ∧ t.clock.sampling = 10
  outputs : t.outputs = ⟨false, false, false, 0, false, ⟨.off, .off, .off, .off, .off⟩⟩

/-! ### The clock -/

/-- What is left of every timer that runs, in ms, the step of a playing entry among them, and of every entry being sent on a link,
in characters (R10, R13, R26, R43, R82, R86, R87, R102, R103, R116, R121, R140, R148, R169, R177, R185, R198, R199, R204). -/
def runningTimers (s : State) : List Nat :=
  [s.clock.period, s.clock.sampling] ++
    ([Port.ca, .cb, .vl, .kl].flatMap fun p => let x := s.port p
      x.due :: x.silence.toList ++ (if x.transmit.isEmpty then [] else [x.wire])) ++
    (match s.auth.record with
      | .parked _ n => [n]
      | .claiming i => i.timer :: (match i.previous with
        | .parked _ n => [n]
        | .dark => [])
      | .dark | .active _ | .remote | .stabled _ => []) ++
    (if s.emerg.demands.target < s.emerg.divisor then s.emerg.settle.toList else []) ++
    (match s.emerg.running, s.emerg.vigil with
      | true, .warningHold n => [n]
      | true, .warningTime n => [n]
      | _, _ => []) ++
    (s.junction.records.flatMap fun x =>
      x.reTimer.toList ++ if x.state = .requested then x.reportTimer.toList else []) ++
    (match s.junction.enquiry with
      | .free => []
      | .waiting _ n => [n]
      | .ready _ _ n => [n]) ++
    (s.wayside.sending.map (·.left)).toList ++ s.stop.pulses.toList.flatMap Option.toList ++
    ([Speaker.bell, .horn, .chime, .buzzerA, .buzzerB].flatMap fun k => let x := s.sound.channels.get k
      if x.playing.isSome then [x.left] else []) ++
    s.sound.forcedOff.toList ++ s.consist.timer.toList

/-- Nothing is due: no port may take a command (R202), no running timer is at its end, the time timer has not reached 60 s (R87)
and the horn has not sounded for 5 s (R177). -/
structure NothingDue (s : State) : Prop where
  commands : ∀ p : Port, (s.port p).commands = [] ∨ (s.port p).unanswered.isSome = true ∨
    (s.port p).heldAnswer.isSome = true
  timers : 0 ∉ runningTimers s
  time : (match s.emerg.vigil with
    | .quiet n => s.emerg.running && s.holdHeld && decide (60000 ≤ n)
    | .warningHold _ | .warningTime _ | .penalty => false) = false
  horn : (soundOutputs s).horn = .off ∨ s.sound.hornOn < 5000

/-- An age one millisecond on, at most 65535 (log 18). -/
def aged (n : Nat) : Nat := min 65535 (n + 1)

/-- One millisecond passes: every timer is one lower, every age one higher, the time timer counts while running in QUIET with
the hold HELD (R87), the on-time while the horn sounds (R177), the millisecond counter advances (R207); all else stays. -/
structure MillisecondPasses (s t : State) : Prop where
  clock : t.clock = { s.clock with
    ms := s.clock.ms + 1, phase := 0, period := s.clock.period - 1, sampling := s.clock.sampling - 1 }
  ports : ∀ p : Port, t.port p = { s.port p with
    silence := (s.port p).silence.map (· - 1), due := (s.port p).due - 1, wire := (s.port p).wire - 1 }
  authority : t.auth = { s.auth with record := match s.auth.record with
    | .parked e n => .parked e (n - 1)
    | .claiming i => .claiming { i with
        timer := i.timer - 1
        previous := match i.previous with
          | .parked e n => .parked e (n - 1)
          | .dark => .dark }
    | .dark => .dark
    | .active e => .active e
    | .remote => .remote
    | .stabled n => .stabled n }
  emergency : t.emerg = { s.emerg with
    settle := s.emerg.settle.map (· - 1)
    vigil := match s.emerg.vigil with
      | .quiet n => .quiet (if s.emerg.running && s.holdHeld then n + 1 else n)
      | .warningHold n => .warningHold (n - 1)
      | .warningTime n => .warningTime (n - 1)
      | .penalty => .penalty }
  junction : t.junction = { s.junction with
    records := s.junction.records.map fun x => { x with
      lastReport := x.lastReport.map fun r => { r with age := aged r.age }
      reportTimer := x.reportTimer.map (· - 1)
      reTimer := x.reTimer.map (· - 1) }
    enquiry := match s.junction.enquiry with
      | .free => .free
      | .waiting j n => .waiting j (n - 1)
      | .ready j r n => .ready j { r with age := aged r.age } (n - 1) }
  wayside : t.wayside = { s.wayside with
    sending := s.wayside.sending.map fun x => { x with left := x.left - 1 }
    acked := s.wayside.acked.map fun a => (a.1, aged a.2) }
  stop : t.stop = { s.stop with pulses := t.stop.pulses }
  pulses : ∀ d : Fin 8, t.stop.pulses[d] = s.stop.pulses[d].map (· - 1)
  channels : ∀ k : Speaker, t.sound.channels.get k = { s.sound.channels.get k with
    left := (s.sound.channels.get k).left - 1 }
  sound : t.sound = { s.sound with
    channels := t.sound.channels
    hornOn := if (soundOutputs s).horn = .off then 0 else s.sound.hornOn + 1
    forcedOff := s.sound.forcedOff.map (· - 1) }
  consist : t.consist = { s.consist with timer := s.consist.timer.map (· - 1) }
  same : t.pins = s.pins ∧ t.outputs = s.outputs ∧ t.speed = s.speed ∧ t.shaper = s.shaper ∧ t.assembly = s.assembly ∧
    t.vl = s.vl ∧ t.pending = s.pending

/-! ### What the cyclic trains carry -/

/-- The state, active end and parked end a frame shows of the record (section 10.10). -/
def shownRecord : Record → ShownAuthority
  | .dark => ⟨.dark, none, none⟩
  | .claiming _ => ⟨.claiming, none, none⟩
  | .active e => ⟨.active, some e, none⟩
  | .parked e _ => ⟨.parked, none, some e⟩
  | .remote => ⟨.remote, none, none⟩
  | .stabled _ => ⟨.stabled, none, none⟩

/-- The stop state the part shows and the interlock of it: the mirror in a REMOTE part, NONE before its first frame (R157, R159,
R161), else the own one. -/
def stopShown (s : State) : Mirror :=
  if s.auth.record = .remote then s.stop.mirror.getD ⟨.none, 0, false, false, false⟩
  else ⟨s.stop.own.phase, s.stop.own.doors, s.stop.own.assist, s.stop.own.side1, s.stop.own.side2⟩

/-- The door interlock (R154): the door loop open, a side released, or assistance pending. -/
def interlocked (s : State) : Bool :=
  !s.pins.doorClosed || (stopShown s).side1 || (stopShown s).side2 || (stopShown s).assist

/-- The line ceiling in use: the held value, at most 250 while the vehicle link is LOST (R49). -/
def lineCeilingNow (s : State) : Nat := if (s.port .vl).link = true then s.vl.lineCeiling else min s.vl.lineCeiling 250

/-- A record of the table as a frame shows it, r only outside ON_POINT (R117). -/
def shownJunction (s : State) (x : JunctionRecord) : RecordView :=
  ⟨x.junction, x.leg, x.state, x.permit, if x.state = .onPoint then none else some (runsOut s x)⟩

/-- What a consist frame built in `s` carries (R155, R183). -/
structure FrameCarries (s : State) (f : ConsistFrame) : Prop where
  identity : f.vehicle = s.vl.vehicleNumber ∧ f.rank = s.vl.rank ∧ f.length = s.vl.length
  coupledEnd : f.coupledEnd = s.consist.coupledEnd
  authority : f.authority = shownRecord s.auth.record
  demand : f.rk = s.shaper.rd ∧ f.divisor = s.emerg.divisor ∧ f.ceiling = lineCeilingNow s
  holding : f.holding = true ↔ s.emerg.recorded ≠ 0
  ownSources : ∀ n < 16, f.ownSources.getLsbD n = (s.emerg.recorded.getLsbD n && decide (n ≠ EmergencySource.partner.bit))
  standstill : f.standstill = s.speed.standstill
  stopBlock : ∀ e, s.consist.role = some .lead → s.auth.record = .active e →
    f.stopBlock = some ⟨s.stop.own.phase, s.stop.own.doors, s.stop.own.assist,
      if e = .a then s.stop.own.side1 else s.stop.own.side2, if e = .a then s.stop.own.side2 else s.stop.own.side1⟩
  noBlock : s.consist.role ≠ some .lead → f.stopBlock = none
  presses : f.presses = if s.auth.record = .remote then some s.stop.forward else none
  manualBell : f.manualBell = true ↔ (∃ e, s.auth.record = .active e) ∧ s.sound.channels.bell.holds .manualBell = true
  intent : ∀ i, s.auth.record = .claiming i → f.intent = some i.exchange
  noIntent : (∀ i, s.auth.record ≠ .claiming i) → f.intent = none
  answer : f.answer = s.auth.answered

/-- What a cab display frame built in `s` for end `e` shows (R79, R117, R137, R161, R181, R194). -/
structure DisplayShows (e : End) (s : State) (d : CabDisplay) : Prop where
  authority : d.authority = shownRecord s.auth.record
  speed : d.vRef = s.speed.vRef ∧ d.standstill = s.speed.standstill
  interlock : d.interlock = interlocked s
  latch : (d.holding = true ↔ s.emerg.recorded ≠ 0) ∧ d.first = s.emerg.first ∧ d.divisor = s.emerg.divisor
  unresolved : ∀ src : EmergencySource,
    d.unresolved.getLsbD src.bit = (s.emerg.recorded.getLsbD src.bit && !conditionClear e s src)
  buzzer : d.buzzer = true ↔ (soundOutputs s).get (endBuzzer e) ≠ .off
  nearest : ∀ x, Nearest s x → d.nearest = some (shownJunction s x)
  noNearest : (∀ x ∈ s.junction.records, x.state = .onPoint) → d.nearest = none
  pending : d.pendingLeg = s.junction.pendingLeg ∧ d.pendingPermit = s.junction.pendingPermit
  junction : d.cj = junctionCeiling s ∧ d.enquiry = s.junction.enquiry
  stop : d.phase = (stopShown s).phase ∧ d.doors = (stopShown s).doors ∧ d.assist = (stopShown s).assist
  sides : d.left = (if e = .a then (stopShown s).side1 else (stopShown s).side2) ∧
    d.right = (if e = .a then (stopShown s).side2 else (stopShown s).side1)
  earlyPress : s.auth.record ≠ .remote → d.earlyPress = s.stop.own.earlyPress
  wayside : d.heldCrossing = s.wayside.held.map (·.crossing) ∧ d.acked = s.wayside.acked
  consist : d.consist = s.consist.state ∧ d.role = s.consist.role ∧ d.partner = s.consist.identity ∧
    d.partnerShows = s.consist.latest.map fun f => (f.authority.state, f.standstill)

/-- What a vehicle report frame built in `s` shows (R79, R117, R137, R161, R181, R194, R209; logs 41, 43, 45, 47). -/
structure ReportShows (s : State) (r : VehicleReport) : Prop where
  drive : r.authority = shownRecord s.auth.record ∧ r.demand = s.shaper.prev ∧ r.vRef = s.speed.vRef ∧
    r.reference = s.speed.reference ∧ r.standstill = s.speed.standstill ∧ r.odometer = s.speed.odometer
  health : ∀ c : Axle, axleGet r.health c = match (axleGet s.speed.axles c).health with
    | .healthy _ _ => none
    | .faulted cause _ => some cause
  links : r.links = ⟨(s.port .ca).link, (s.port .cb).link, (s.port .vl).link, (s.port .kl).link⟩
  latch : r.recorded = s.emerg.recorded ∧ r.first = s.emerg.first ∧ r.commandHold = s.emerg.commandHold ∧
    r.lineState = s.outputs.brakeLine ∧ r.armed = s.emerg.armed
  ladder : r.divisor = s.emerg.divisor ∧ r.demands = s.emerg.demands ∧ r.lineCeiling = lineCeilingNow s
  vigilance : r.vigil = s.emerg.vigil ∧ r.action = s.emerg.action ∧ r.locked = s.emerg.locked
  plan : r.planCount = s.junction.plan.length ∧ r.planHead = s.junction.plan.head?.map (·.junction)
  records : r.records = s.junction.records.map (shownJunction s)
  table : r.overflow = s.junction.overflow.map (·.junction) ∧ r.tableFull = s.junction.tableFull ∧
    r.cj = junctionCeiling s ∧ r.eventCount = s.vl.events.length
  wayside : r.queueCounts = (s.wayside.jr.length, s.wayside.jq.length, s.wayside.sp.length, s.wayside.vx.length) ∧
    r.sending = s.wayside.sending.map (fun x => (x.source, x.telegram.kind)) ∧ r.levels = s.wayside.levels ∧
    r.priorityClass = s.vl.priorityClass ∧ r.heldCrossing = s.wayside.held.map (·.crossing) ∧
    r.acked = s.wayside.acked.map (·.1)
  stop : r.stop = s.stop.own ∧ r.doorClosed = s.pins.doorClosed ∧ r.interlock = interlocked s
  outputs : r.enable1 = s.outputs.enable1 ∧ r.enable2 = s.outputs.enable2 ∧ r.sign = s.outputs.sign ∧
    r.autoOpen = s.outputs.autoOpen
  stuck : ∀ n : Fin 32, r.stuck.getLsbD n.val = decide (s.stop.lines[n].state = .stuck)
  channels : ∀ k : Speaker, r.channels.get k =
    ⟨(s.sound.channels.get k).playing.map fun x => (x.source, x.pattern, x.step),
      (s.sound.channels.get k).waiting.map fun x => (x.source, x.pattern), (soundOutputs s).get k⟩
  sound : r.quiet = s.vl.quiet ∧ r.forcedOff = s.sound.forcedOff.isSome
  consist : r.consist = s.consist.state ∧ r.role = s.consist.role ∧ r.joinCount = s.consist.count ∧
    r.coupledEnd = s.consist.coupledEnd ∧ r.facingEnd = s.consist.facingEnd ∧ r.partner = s.consist.identity
  partner : ∀ f, s.consist.latest = some f → r.partnerRk = f.rk ∧ r.partnerDivisor = f.divisor ∧
    r.partnerCeiling = f.ceiling ∧ r.partnerHolding = f.holding ∧ r.partnerSources = f.ownSources
  length : r.length = match s.consist.state, s.consist.latest with
    | .coupled, some f => s.vl.length + f.length
    | _, _ => s.vl.length
  flags : r.flags = s.vl.flags

/-! ### Invariants -/

/-- The line is ENERGISED exactly while armed, clear and not STABLED (R71). -/
def BrakeFollows (s : State) : Prop :=
  s.outputs.brakeLine = (s.emerg.armed && decide (s.emerg.recorded = 0) && !s.isStabled)

/-- The junctions of a table. -/
def junctionsOf (records : List JunctionRecord) : List Nat := records.map (·.junction)

/-- The junction table and the overflow slot as R93 keeps them. -/
structure TableSound (s : State) : Prop where
  places : s.junction.records.length ≤ tablePlaces
  distinct : (junctionsOf s.junction.records).Nodup
  outside : ∀ c, s.junction.overflow = some c → c.junction ∉ junctionsOf s.junction.records

/-- JR never holds two telegrams for the same junction, nor JQ two queries (R124, R125), and no queue exceeds its places. -/
structure QueuesSound (s : State) : Prop where
  jr : (s.wayside.jr.map JrEntry.junction).Nodup
  jq : s.wayside.jq.Nodup
  jrPlaces : s.wayside.jr.length ≤ Machine.jrPlaces
  jqPlaces : s.wayside.jq.length ≤ Machine.jqPlaces
  spPlaces : s.wayside.sp.length ≤ Machine.spPlaces
  vxPlaces : s.wayside.vx.length ≤ Machine.vxPlaces

/-- The rungs of the derate ladder (R81). -/
def rungs : List Nat := [1, 2, 3, 4, 6, 8]

/-- A demand present is a rung. -/
def demandSound (d : Option Nat) : Prop := ∀ n, d = some n → n ∈ rungs

/-- The ladder as R81 keeps it: the divisor is a rung and never below the largest demand present; the demands are rungs. -/
structure LadderSound (s : State) : Prop where
  divisor : s.emerg.divisor ∈ rungs
  target : s.emerg.demands.target ≤ s.emerg.divisor
  sensor : demandSound s.emerg.demands.sensor
  reference : demandSound s.emerg.demands.reference
  adhesion : demandSound s.emerg.demands.adhesion
  vehicle : demandSound s.emerg.demands.vehicle
  partner : demandSound s.emerg.demands.partner
  frame : ∀ f, s.consist.latest = some f → f.divisor ∈ rungs

/-- A sound channel as R170 to R175 keep it: a silent channel has no waiting entries, at most three wait, no source is
present twice, and the waiting list stands in its order. -/
structure ChannelSound (patterns : Vector Pattern 16) (ch : SoundChannel) : Prop where
  silent : ch.playing = none → ch.waiting = []
  places : ch.waiting.length ≤ waitingPlaces
  sources : ((ch.playing.toList ++ ch.waiting).map (·.source)).Nodup
  ordered : ch.waiting.Pairwise fun x y => entryBefore patterns y x = false

/-- Every sound channel is as R170 to R175 keep it. -/
def SoundsSound (s : State) : Prop := ∀ k : Speaker, ChannelSound s.sound.patterns (s.sound.channels.get k)

/-- The demand and what it is formed from stay within their ranges (R58, R184). -/
structure DemandSound (s : State) : Prop where
  prev : -100 ≤ s.shaper.prev ∧ s.shaper.prev ≤ 100
  cap : 10 ≤ s.shaper.cap ∧ s.shaper.cap ≤ 100
  frame : ∀ f, s.consist.latest = some f → -100 ≤ f.rk ∧ f.rk ≤ 100

/-- The FIFOs of the ports, the trip event queue and the route plan stay within their places (R91, R201, R204, R207). -/
structure FifosSound (s : State) : Prop where
  commands : ∀ p : Port, (s.port p).commands.length ≤ fifoPlaces
  transmit : ∀ p : Port, (s.port p).transmit.length ≤ fifoPlaces
  events : s.vl.events.length ≤ eventPlaces
  plan : s.junction.plan.length ≤ planPlaces

/-- The consist unit and the record agree (R18, R186, R187, R190, R194): the role is the derived one, a CLAIMING or REMOTE
record stands only while COUPLED, a STABLED one only while SINGLE, a COUPLED part holds a partner frame, and no facing end is
held outside COUPLED. -/
structure ConsistSound (s : State) : Prop where
  role : s.consist.role =
    (if s.consist.state = .coupled then
      match s.auth.record with
      | .active _ => some .lead
      | .remote => if (s.consist.latest.map fun f => f.authority.state) = some .active then some .trail else some .neutral
      | .dark | .claiming _ | .parked _ _ | .stabled _ => some .neutral
    else none)
  remote : s.auth.record = .remote → s.consist.state = .coupled
  claiming : ∀ i, s.auth.record = .claiming i → s.consist.state = .coupled
  stabled : ∀ n, s.auth.record = .stabled n → s.consist.state = .single
  frame : s.consist.state = .coupled → s.consist.latest.isSome = true
  facing : s.consist.state ≠ .coupled → s.consist.facingEnd = none

/-- The latch names a first source exactly while it holds one, and holds no other than the ten sources (R68). -/
structure LatchSound (s : State) : Prop where
  first : s.emerg.recorded = 0 ↔ s.emerg.first = none
  sources : s.emerg.recorded &&& 0xFC00 = 0

/-! ### Frames of the partner, and what they end -/

/-- Page 1 of a consist frame arrives whose page 0 is held under the same TAG: the two read as `f`, with an identity in range,
on a link that is UP (R184, R199). -/
structure Brings (tag : Byte) (page : List Byte) (f : ConsistFrame) (s : State) : Prop where
  link : (s.port .kl).link = true
  second : page.head? = some 0x12
  held : ∃ first, s.assembly = some (tag, first) ∧ consistOf first page = some f
  identity : (1 ≤ f.vehicle ∧ f.vehicle ≤ 9999) ∧ 100 ≤ f.length ∧ f.length ≤ 600

/-- A COUPLED part whose pair frame `f` keeps COUPLED: it names the partner, which is not this part, and not both are ACTIVE
(R186). -/
structure StaysCoupled (f : ConsistFrame) (s : State) : Prop where
  sound : ConsistSound s
  state : s.consist.state = .coupled
  partner : s.consist.identity = some (f.vehicle, f.rank)
  other : f.vehicle ≠ s.vl.vehicleNumber ∧ f.rank ≠ s.vl.rank
  apart : ∀ e, s.auth.record = .active e → f.authority.state ≠ .active

/-- The lowest rung at or above a value: 0 counts as 1, above 8 as 8 (R80, R184). -/
def rung (n : Nat) : Nat := if n ≤ 1 then 1 else if n ≤ 4 then n else if n ≤ 6 then 6 else 8

/-- A frame as it is stored (R184). -/
def stored (f : ConsistFrame) : ConsistFrame :=
  { f with ceiling := min f.ceiling 800, divisor := rung f.divisor, rk := max (-100) (min 100 f.rk) }

/-- The facing end frame `f` gives a part whose coupled end is `e` (R190; log 21). -/
def facingOf (e : End) (f : ConsistFrame) : Option End :=
  if f.authority.state = .active then
    match f.authority.activeEnd with
    | some x => if f.coupledEnd = some x then some (otherEnd e) else some e
    | none => none
  else none

/-- What a driving-end change leaves beside the records of the table: no overflow junction, no pending item, no held priority
request (R113, R134). -/
def DrivingEndChanged (t : State) : Prop :=
  t.junction.overflow = none ∧ t.junction.tableFull = false ∧ t.junction.pendingLeg = none ∧
    t.junction.pendingPermit = false ∧ t.wayside.held = none ∧ ∀ x ∈ t.junction.records, x.state = .onPoint

/-- The claim kept unanswered at the port of an end is answered, and nothing else of that port changes (R16, R17). -/
def ClaimAnswered (e : End) (answer : Command → TxEntry) (s t : State) : Prop :=
  ∀ c, (s.port (endPort e)).unanswered = some c → (s.port (endPort e)).transmit.length < 8 →
    t.port (endPort e) = { s.port (endPort e) with unanswered := none }.withEntry (answer c)

end Sys2Proof.Machine
end

