-- ==== Sys2Proof/Certificates/Slice0/Obligations.lean ====
section
/-!
DEFINITION. The statements about the model, for the provers.
-/

open Sys2Proof Sys2Proof.Machine

/-! ### The machine -/

/-- A step runs the command at the front of the queue, with the queue's rest (the block's interface). -/
def Obligations.StepRunsQueueHead : Prop :=
  ∀ (c : Instr) (s : State), step (s.withPending (c :: s.pending)) = exec c s

/-- Every step answers a next state, in which nothing is left to do at the end of the event: output lines, POINT_WARN request
and owed NOTICE follow the state (R105, R163, R209; logs 9, 23, 27 for the moment at which they follow). Above all the emergency
brake line is ENERGISED exactly while armed, clear and not STABLED (R71). On an empty queue one of the part's own events that
are due runs, chosen by a free value where several are; where nothing is due, one character time of 20 microseconds passes, and
every fiftieth ends a millisecond, in which every timer runs down, every age grows and the clock advances (section 10.1, R87,
R177, R207; logs 5, 6 and 18: that a step on an empty queue is the passing of time is the model's choice). -/
def Obligations.EveryStepSettlesAndDrivesTheBrake : Prop :=
  ∀ s : State, ∃ t, step s = .next t ∧ Settled t ∧
    (t.outputs.brakeLine = true ↔
      t.emerg.armed = true ∧ t.emerg.recorded = 0 ∧ ∀ n, t.auth.record ≠ .stabled n) ∧
    (s.pending = [] →
      (ready s = [] ↔ NothingDue s) ∧
      (ready s ≠ [] → ∃ i ∈ ready s, exec i s = .next t ∨
        exec i (s.withClock { s.clock with choices := s.clock.choices + 1 }) = .next t) ∧
      (NothingDue s → Settled s →
        (s.clock.phase < 49 → (∀ p : Port, t.port p = { s.port p with wire := (s.port p).wire - 1 }) ∧
          t = { s with ports := t.ports, clock := { s.clock with phase := s.clock.phase + 1 } }) ∧
        (49 ≤ s.clock.phase → MillisecondPasses s t)))

/-- Every invariant stated below holds right after reset. -/
def Obligations.InvariantsHoldAtReset : Prop :=
  TableSound State.reset ∧ QueuesSound State.reset ∧ FifosSound State.reset ∧ LatchSound State.reset ∧
    LadderSound State.reset ∧ SoundsSound State.reset ∧ DemandSound State.reset ∧ ConsistSound State.reset ∧
    Settled State.reset

/-- Every step keeps the junction table at no more than four records with pairwise different junctions, and the overflow
junction outside it (R93). -/
def Obligations.StepKeepsTheJunctionTable : Prop :=
  ∀ s t : State, TableSound s → step s = .next t → TableSound t

/-- Every step keeps the source queues within their places without a junction twice in JR or JQ (R124, R125), and the FIFOs of
the ports, the trip event queue and the route plan within theirs (R91, R201, R204, R207). -/
def Obligations.StepKeepsQueuesAndFifos : Prop :=
  ∀ s t : State, step s = .next t → (QueuesSound s → QueuesSound t) ∧ (FifosSound s → FifosSound t)

/-- Every step keeps the latch's first source together with its set (R68), the divisor and every demand on a rung with the
divisor never below a demand (R81), and the traction demand within -100 to +100 with the adhesion cap within 10 to 100 (R58,
R61, R63). -/
def Obligations.StepKeepsLatchLadderAndDemand : Prop :=
  ∀ s t : State, step s = .next t →
    (LatchSound s → LatchSound t) ∧ (LadderSound s → LadderSound t) ∧ (DemandSound s → DemandSound t)

/-- Every step keeps every sound channel: nothing waits on a silent channel, at most three entries wait, no source is present
twice, and the waiting list stands by priority, then by age (R170 to R175). -/
def Obligations.StepKeepsSoundChannels : Prop :=
  ∀ s t : State, SoundsSound s → step s = .next t → SoundsSound t

/-- Every step keeps the role as derived, a CLAIMING or REMOTE record only while COUPLED, and a STABLED one only while SINGLE
(R18, R186, R187, R194). -/
def Obligations.StepKeepsRoleAndRecord : Prop :=
  ∀ s t : State, ConsistSound s → step s = .next t → ConsistSound t

/-- A recorded emergency source stays recorded until an EMERGENCY RESET, a consist frame, or a reset (R68, R74, R77, R78). -/
def Obligations.SourcesStayRecorded : Prop :=
  ∀ (i : Instr) (s t : State) (src : EmergencySource), exec i s = .next t →
    s.emerg.recorded.getLsbD src.bit = true →
    t.emerg.recorded.getLsbD src.bit = true ∨ (∃ e, i = .emergencyReset (endPort e) ∧ t.emerg.recorded = 0) ∨
      (∃ e tag payload, i = .consistPage e tag payload ∧ t.auth.record = .remote) ∨ i = .powerOnReset ∨ i = .lineReset

/-- An end becomes the active end only by a CLAIM from its console or by a consist frame that brings the GRANT with the running
intent's exchange number (R4, R16). -/
def Obligations.OnlyClaimsMakeActive : Prop :=
  ∀ (i : Instr) (s t : State) (e : End), exec i s = .next t → t.auth.record = .active e → s.auth.record ≠ .active e →
    i = .claim (endPort e) ∨
      ∃ c tag page first x f, i = .consistPage c tag page ∧ s.assembly = some (tag, first) ∧
        consistOf first page = some f ∧ s.auth.record = .claiming x ∧ x.claimant = e ∧
        f.answer = some (x.exchange, true)

/-- The record leaves STABLED only for DARK, at a reset or by a wake source whose level is above the threshold (R21, R22); while
it stays STABLED no demand frame is sent and the demand is kept (R20). -/
def Obligations.StabledWakesOnlyByLevel : Prop :=
  ∀ (i : Instr) (s t : State) (n : Nat), s.auth.record = .stabled n → exec i s = .next t →
    (t.auth.record = .stabled n ∧ t.shaper.demandLine = s.shaper.demandLine ∧ t.shaper.prev = s.shaper.prev ∧
        t.shaper.frames = s.shaper.frames) ∨
      (t.auth.record = .dark ∧ (i = .powerOnReset ∨ i = .lineReset ∨ ((∃ e, i = .keyOn e) ∧ n < 6) ∨
        (i = .wake .vl ∧ n < 5) ∨ ((∃ e tag payload, i = .consistPage e tag payload) ∧ n < 4) ∨
        ((i = .doorLoopOpens ∨ i = .passengerLoopOpens) ∧ n < 3) ∨
        (((∃ line, i = .stopRequestPress line) ∨ ∃ samples, i = .samplingTimerExpires samples) ∧ n < 1)))

/-- No row but the items of CONFIGURE and the power-on reset writes configuration; a line reset keeps it (R41, R89, R130, R139,
R165, R206). -/
def Obligations.OnlyConfigureWritesConfiguration : Prop :=
  ∀ (i : Instr) (s t : State), configures i = false → exec i s = .next t → SameConfiguration s t

/-- Once a demand period expiry is over, traction stands only under the permit of R57, the demand keeps the caps of R56, and
with the latch holding it is -100 with EMERG, a source set at the expiry seen by the same computation (R44, R58; log 12). With
the latch clear the demand and the dwell are those of stages A to F (R45 to R57), from an O_prev of -100 in the first
computation after a release (R59; log 38; log 48 where the dwell counter is then above 0); the overspeed flag and the adhesion
machine follow R51 and R60 to R64. -/
def Obligations.DemandObeysPermitAndLatch : Prop :=
  ∀ (closed : PerAxle Bool) (s t : State), LadderSound s → (∀ n, s.auth.record ≠ .stabled n) →
    exec (.periodUpdate closed) s = .next t →
    (0 < t.shaper.prev →
      ((∃ e, t.auth.record = .active e) ∨ (t.auth.record = .remote ∧ t.consist.state = .coupled)) ∧
      t.consist.state ≠ .conflict ∧ t.consist.state ≠ .mismatch ∧ t.pins.doorClosed = true ∧
      t.shownStop.side1 = false ∧ t.shownStop.side2 = false ∧ t.shownStop.assist = false ∧
      t.shaper.prev ≤ (100 / t.emerg.divisor : Nat) ∧ t.shaper.prev ≤ t.shaper.cap) ∧
    (t.emerg.recorded = 0 → -(t.shaper.cap : Int) ≤ t.shaper.prev) ∧
    (t.emerg.recorded ≠ 0 → t.shaper.prev = -100 ∧ t.shaper.dwell = 0 ∧ t.shaper.dwellSign = none) ∧
    ∃ f, t.shaper.demandLine = some f ∧ f.tag = s.shaper.frames ∧ f.demand = t.shaper.prev ∧
      (f.emerg = true ↔ t.emerg.recorded ≠ 0) ∧ t.shaper.frames = s.shaper.frames + 1 ∧
      (f.sand = true ↔ t.shaper.adhesion ≠ .grip) ∧
    let before : Int := if s.shaper.released = true ∧ t.emerg.recorded = 0 then -100 else s.shaper.prev
    let d := demandInputs before t
    let healthy := fun c : Axle => ∃ z o, (axleGet t.speed.axles c).health = .healthy z o
    let v := fun c : Axle => (axleGet t.speed.axles c).speed
    let motored := fun c : Axle => c = .m1 ∨ c = .m2
    let detected := (0 < before ∧ ∃ c, motored c ∧ healthy c ∧ t.speed.vRef + 15 < v c) ∨
      (before < 0 ∧ ∃ c, healthy c ∧ v c + 15 < t.speed.vRef)
    let calm := (0 < before → ∀ c, motored c → healthy c → v c < t.speed.vRef + 5) ∧
      (before < 0 → ∀ c, healthy c → t.speed.vRef < v c + 5)
    let aged := (s.shaper.history.map (· + 1)).filter fun age => decide (age < 250)
    t.shaper.rd = d.rd ∧ f.divisor = d.divisor ∧
    (t.emerg.recorded = 0 → t.shaper.prev = d.o s.shaper.dwell s.shaper.dwellSign ∧
      (t.shaper.dwell, t.shaper.dwellSign) = d.dwell s.shaper.dwell s.shaper.dwellSign) ∧
    t.shaper.overspeed = d.over ∧ f.overspeed = d.over ∧
    (d.over = true → s.shaper.overspeed = false →
      (t.vl.events.getLast?.map (·.event)) = some (.overspeed d.c d.v)) ∧
    (s.shaper.adhesion ≠ .slip → detected → t.shaper.adhesion = .slip ∧ t.shaper.calm = 0 ∧
      t.shaper.cap = max 10 (before.natAbs / 2) ∧ t.shaper.history = aged ++ [0] ∧
      ∃ n, Reported (.slip (decide (before < 0)) n) t ∧
        (0 < before → (∃ c, motored c ∧ healthy c ∧ v c = t.speed.vRef + n) ∧
          ∀ c, motored c → healthy c → v c ≤ t.speed.vRef + n) ∧
        (before < 0 → (∃ c, healthy c ∧ v c + n = t.speed.vRef) ∧
          ∀ c, healthy c → t.speed.vRef ≤ v c + n)) ∧
    (s.shaper.adhesion = .slip → t.shaper.history = aged ∧ t.shaper.cap = s.shaper.cap ∧
      (calm → s.shaper.calm < 4 → t.shaper.adhesion = .slip ∧ t.shaper.calm = s.shaper.calm + 1) ∧
      (calm → 4 ≤ s.shaper.calm → t.shaper.adhesion = .recover) ∧
      (¬ calm → t.shaper.adhesion = .slip ∧ t.shaper.calm = 0)) ∧
    (s.shaper.adhesion = .recover → ¬ detected → t.shaper.history = aged ∧
      (s.shaper.cap < 98 → t.shaper.adhesion = .recover ∧ t.shaper.cap = s.shaper.cap + 2) ∧
      (98 ≤ s.shaper.cap → t.shaper.adhesion = .grip ∧ t.shaper.cap = 100)) ∧
    (s.shaper.adhesion = .grip → ¬ detected → t.shaper.adhesion = .grip ∧ t.shaper.history = aged ∧
      t.shaper.cap = s.shaper.cap) ∧
    (3 ≤ t.shaper.history.length → s.emerg.demands.adhesion = none → t.emerg.demands.adhesion = some 2) ∧
    (t.shaper.history.length < 3 → t.emerg.demands.adhesion = none) ∧ t.shaper.released = false

/-! ### Resets -/

/-- POWER_ON_RESET and LINE_RESET leave every block at its reset value; the power-on reset sets the configuration to its
defaults, the line reset keeps it; the input lines and the queue stay as they are (the reset rule of each chapter, R164 for the
patterns; log 8). -/
def Obligations.ResetsLeaveTheResetState : Prop :=
  ∀ s : State,
    (Gives .powerOnReset s fun t => StandsReset t ∧
      (t.vl.vehicleNumber = 1 ∧ t.vl.rank = 0 ∧ t.vl.length = 450) ∧ t.speed.pulseLength = 2136 ∧
      (∀ i : Fin 4, t.speed.monitors[i] = ⟨0, .off, none, false⟩) ∧ t.sound.patterns = State.reset.sound.patterns ∧
      PatternsDefault t ∧
      (t.emerg.action = .warnOnly ∧ t.emerg.locked = false) ∧ t.wayside.levels = ⟨false, false, true⟩ ∧
      (∀ n : Fin 32, t.stop.lines[n].cls = .off ∧ t.stop.lines[n].door = 0) ∧ t.pins = s.pins ∧
      t.pending = s.pending) ∧
    (Gives .lineReset s fun t => StandsReset t ∧ SameConfiguration s t ∧ t.pins = s.pins ∧ t.pending = s.pending)

/-! ### The cab commands -/

/-- A CLAIM from an end whose key is on and whose link is UP, with no partner to ask, makes the record ACTIVE from DARK and from
PARKED at the same end: AUTHORITY_CHANGED is appended and the vigilance monitor starts anew; a lever at E sets source LEVER; a
claim by the active end changes nothing (R4, R11, R85). -/
def Obligations.ClaimTakesAuthority : Prop :=
  ∀ (e : End) (tag : Byte) (s : State), s.pins.key.get e = true → (s.port (endPort e)).link = true →
    ((s.auth.record = .dark ∨ ∃ n, s.auth.record = .parked e n) → Unpaired s →
      ((s.slot e).lever ≠ .emergency →
        Takes (endPort e) ⟨0x10, tag, []⟩ (.claim (endPort e)) s (accepted ⟨0x10, tag, []⟩ [])
          ([.record, .vigilance] ++ reporting ++ closing) fun t =>
            t.auth.record = .active e ∧ Logged [.authorityChanged ⟨.active, some e, none⟩ none] [] s t ∧
            t.emerg.running = decide (5 ≤ s.speed.vRef) ∧
            t.emerg.vigil = (if 5 ≤ s.speed.vRef ∧ (s.slot e).deadman = false then .warningHold 1500 else .quiet 0)) ∧
      ((s.slot e).lever = .emergency →
        Takes (endPort e) ⟨0x10, tag, []⟩ (.claim (endPort e)) s (accepted ⟨0x10, tag, []⟩ [])
          ([.record, .vigilance, .latch] ++ reporting ++ closing) fun t =>
            t.auth.record = .active e ∧ t.emerg.recorded.getLsbD EmergencySource.lever.bit = true)) ∧
    (s.auth.record = .active e →
      Takes (endPort e) ⟨0x10, tag, []⟩ (.claim (endPort e)) s (accepted ⟨0x10, tag, []⟩ []) [] fun _ => True)

/-- A CLAIM by the other end of a PARKED vehicle alone, at standstill with no record in ON_POINT, is a handover: ACTIVE with the
driving-end change made (R4, R5, R113, R134). -/
def Obligations.ClaimHandsOver : Prop :=
  ∀ (e : End) (n : Nat) (tag : Byte) (s : State), s.pins.key.get e = true → (s.port (endPort e)).link = true →
    s.auth.record = .parked (otherEnd e) n → s.speed.standstill = true → NoneOnPoint s → Unpaired s →
    Takes (endPort e) ⟨0x10, tag, []⟩ (.claim (endPort e)) s (accepted ⟨0x10, tag, []⟩ [])
      ([.record, .vigilance, .latch, .table, .queues, .pendingItems, .heldPriority] ++ reporting ++ closing) fun t =>
        t.auth.record = .active e ∧ t.junction.records = [] ∧ t.junction.overflow = none ∧
        t.junction.tableFull = false ∧ t.junction.pendingLeg = none ∧ t.junction.pendingPermit = false ∧
        t.wayside.held = none

/-- A CLAIM while COUPLED begins an exchange: CLAIMING with the intent, the exchange number one higher, the park timer running
on, the claim unanswered (R12, R13). Where the pair no longer stands, by the latest frame, the exchange ends in the same event:
MISMATCH, the record as before, NO_PARTNER (R17, R186), where CONSIST_CHANGED between the two AUTHORITY_CHANGED is log 10. A
frame with the exchange number ends it: GRANT makes the end ACTIVE and this part LEAD, with the driving-end change of a
handover; DENY gives the record back, also where the frame shows the partner ACTIVE (R16, R188). An answer with another number
is discarded. -/
def Obligations.ClaimBeginsExchange : Prop :=
  ∀ (e : End) (prev : Previous) (tag : Byte) (s : State),
    let claim : Command := ⟨0x10, tag, []⟩
    (s.pins.key.get e = true →
      (s.port (endPort e)).link = true → Paired s → ConsistSound s → ClaimFrom e s prev →
      Offered (endPort e) claim s → Settled s →
      Gives (.claim (endPort e)) s fun t =>
        t.auth.record = .claiming ⟨e, 300, s.auth.lastExchange + 1, prev⟩ ∧
        t.auth.lastExchange = s.auth.lastExchange + 1 ∧ t.auth.answered = s.auth.answered ∧
        t.port (endPort e) = { s.port (endPort e) with
          commands := (s.port (endPort e)).commands.tail, unanswered := some claim } ∧
        Logged [.authorityChanged ⟨.claiming, none, none⟩ (some e)] [] s t ∧ NoticeOnly s t ∧
        Changes ([.record, .exchange, .port (endPort e)] ++ reporting ++ closing) s t) ∧
    (s.pins.key.get e = true → (s.port (endPort e)).link = true → s.consist.state = .coupled → ConsistSound s →
      ClaimFrom e s prev → ∀ f, s.consist.latest = some f → (f.vehicle = s.vl.vehicleNumber ∨ f.rank = s.vl.rank) →
      Takes (endPort e) claim (.claim (endPort e)) s (refusedBy .owner claim .noPartner)
        ([.record, .exchange, .consist, .table, .queues, .pendingItems, .heldPriority] ++ reporting ++ closing) fun t =>
          t.auth.record = s.auth.record ∧ t.auth.lastExchange = s.auth.lastExchange + 1 ∧
          t.consist = { s.consist with state := .mismatch, role := none, facingEnd := none } ∧
          (∀ y n v r, prev = .parked y n → s.consist.identity = some (v, r) →
            Logged [.authorityChanged ⟨.claiming, none, none⟩ (some e), .consistChanged .mismatch none v,
              .authorityChanged ⟨.parked, none, some y⟩ none] [] s t) ∧
          (prev = .dark → TableSound s → DrivingEndChanged t)) ∧
    (∀ (c : End) (page : List Byte) (f : ConsistFrame) (i : ClaimIntent), s.auth.record = .claiming i → Settled s →
      Brings tag page f s → StaysCoupled f s → f.intent = none →
      let ends := fun effect : State → Prop => Gives (.consistPage c tag page) s effect
      (f.answer = some (i.exchange, true) → f.authority.state ≠ .active → ends fun t =>
        t.auth.record = .active i.claimant ∧ t.consist.role = some .lead ∧ ClaimAnswered i.claimant (accepted · []) s t ∧
        (∀ y n, i.previous = .parked y n → y ≠ i.claimant → TableSound s → DrivingEndChanged t)) ∧
      (f.answer = some (i.exchange, false) → ends fun t =>
        (∀ y n, i.previous = .parked y n → t.auth.record = .parked y n) ∧
        (i.previous = .dark → t.auth.record = .dark ∧ (TableSound s → DrivingEndChanged t)) ∧
        t.consist.role = some .neutral ∧ ClaimAnswered i.claimant (refusedBy .owner · .heldByOther) s t) ∧
      ((∀ granted, f.answer ≠ some (i.exchange, granted)) → ends fun t =>
        t.auth.record = s.auth.record ∧ ∀ p, p ≠ .vl → p ≠ .kl → t.port p = s.port p))

/-- The refusals of a CLAIM, each with nothing else changed, in the order of the tests (R4, R12, R17, R20). -/
def Obligations.ClaimRefusals : Prop :=
  ∀ (e : End) (tag : Byte) (s : State),
    let refuses := Refuses (endPort e) ⟨0x10, tag, []⟩ (.claim (endPort e)) s .owner
    let idle := ∃ prev, ClaimFrom e s prev
    (s.pins.key.get e = false → refuses .noKey) ∧
    (s.pins.key.get e = true → (s.port (endPort e)).link = false → refuses .link) ∧
    (s.pins.key.get e = true → (s.port (endPort e)).link = true →
      (s.auth.record = .active (otherEnd e) → refuses .heldByOther) ∧
      ((∃ x, s.auth.record = .claiming x) → refuses .busy) ∧
      (s.auth.record = .remote → refuses .remote) ∧
      ((∃ n, s.auth.record = .stabled n) → refuses .stabled) ∧
      ((∃ n, s.auth.record = .parked (otherEnd e) n) → s.speed.standstill = false → refuses .moving) ∧
      ((∃ n, s.auth.record = .parked (otherEnd e) n) → s.speed.standstill = true → ¬ NoneOnPoint s →
        refuses .onPoint) ∧
      (idle → (s.consist.state = .joining ∨ s.consist.state = .mismatch) → refuses .consistFault))

/-- RELEASE at standstill parks the active end with the park timer at 120 s, ends its vigilance and its manual sounds; a
CONFLICT with an ACTIVE partner becomes COUPLED in that event, with the facing end held at once (R186, R190). While moving, and
from any end that is not the active one, RELEASE is refused (R7, R85, R168). -/
def Obligations.ReleaseParksTheActiveEnd : Prop :=
  ∀ (e : End) (tag : Byte) (s : State), (∀ n, s.auth.record ≠ .stabled n) →
    (s.auth.record = .active e → s.speed.standstill = true →
      Takes (endPort e) ⟨0x11, tag, []⟩ (.release (endPort e)) s (accepted ⟨0x11, tag, []⟩ [])
        ([.record, .vigilance, .consist, .exchange, .ladder] ++ reporting ++ closing) fun t =>
          t.auth.record = .parked e 120000 ∧ t.emerg.running = false ∧ t.emerg.vigil = .quiet 0 ∧
          (SoundsSound s → t.sound.channels.bell.holds .manualBell = false ∧
            t.sound.channels.horn.holds .manualHorn = false) ∧
          (Unpaired s → s.consist.state ≠ .conflict →
            t.consist = s.consist ∧ Logged [.authorityChanged ⟨.parked, none, some e⟩ none] [] s t) ∧
          (s.consist.state = .conflict → s.consist.role = none → ∀ f x, s.consist.latest = some f →
            f.authority.state = .active → s.consist.coupledEnd = some x →
            f.vehicle ≠ s.vl.vehicleNumber → f.rank ≠ s.vl.rank →
            t.consist = { s.consist with state := .coupled, role := some .neutral, facingEnd := facingOf x f } ∧
            t.auth.answered = none)) ∧
    (s.auth.record = .active e → s.speed.standstill = false →
      Refuses (endPort e) ⟨0x11, tag, []⟩ (.release (endPort e)) s .owner .moving) ∧
    (s.auth.record ≠ .active e →
      Refuses (endPort e) ⟨0x11, tag, []⟩ (.release (endPort e)) s .owner .notActive)

/-- EMERGENCY RESET that passes its tests empties the latch, withdraws the emergency sounds, sets the divisor to 8 with its
settle timer, and reports; the command hold is not touched, and the next computation is to start from an O_prev of -100, which
the model holds in a field of its own (R59, R73, R74, R84; log 38; log 10 for EMERGENCY_RELEASED before DERATE). -/
def Obligations.EmergencyResetReleasesTheLatch : Prop :=
  ∀ (e : End) (tag : Byte) (v : Int) (s : State), s.auth.record = .active e →
    (s.emerg.recorded ≠ 0 → s.emerg.divisor ≤ 8 → s.speed.standstill = true →
      (∀ src : EmergencySource, s.emerg.recorded.getLsbD src.bit = true → conditionClear e s src = true) →
      (s.slot e).fresh = true → (s.slot e).lever = .number v → v ≤ -50 → SoundsSound s →
      Takes (endPort e) ⟨0x12, tag, []⟩ (.emergencyReset (endPort e)) s (accepted ⟨0x12, tag, []⟩ [])
        ([.latch, .ladder, .shaper] ++ reporting ++ closing) fun t =>
          t.emerg.recorded = 0 ∧ t.emerg.first = none ∧ t.outputs.brakeLine = s.emerg.armed ∧
          t.shaper = { s.shaper with released := true } ∧
          t.emerg.divisor = 8 ∧ t.emerg.demands = s.emerg.demands ∧
          t.emerg.settle = (if s.emerg.demands.target < 8 then some 3000 else none) ∧
          t.sound.channels.bell.holds .emergency = false ∧ t.sound.channels.horn.holds .emergency = false ∧
          (if s.emerg.divisor < 8 then
            Logged [.emergencyReleased s.emerg.first, .derate 8] [.emergency, .derate] s t
          else Logged [.emergencyReleased s.emerg.first] [.emergency] s t)) ∧
    (s.emerg.recorded = 0 →
      Takes (endPort e) ⟨0x12, tag, []⟩ (.emergencyReset (endPort e)) s (accepted ⟨0x12, tag, []⟩ []) [] fun _ => True)

/-- The refusals of an EMERGENCY RESET in the order of its tests, the release conditions read as R72 names them (R72, R73). -/
def Obligations.EmergencyResetRefusals : Prop :=
  ∀ (e : End) (tag : Byte) (s : State), (∀ n, s.auth.record ≠ .stabled n) →
    let refuses := Refuses (endPort e) ⟨0x12, tag, []⟩ (.emergencyReset (endPort e)) s .owner
    let recorded := fun src : EmergencySource => s.emerg.recorded.getLsbD src.bit = true
    (s.auth.record ≠ .active e → refuses .notActive) ∧
    (s.auth.record = .active e → s.emerg.recorded ≠ 0 →
      (s.speed.standstill = false → refuses .moving) ∧
      (s.speed.standstill = true →
        ((recorded .lever ∧ (s.slot e).lever = .emergency) ∨ (recorded .vigilance ∧ (s.slot e).deadman = false) ∨
          (recorded .link ∧ (s.port (endPort e)).link = false) ∨ (recorded .key ∧ s.pins.key.get e = false) ∨
          (recorded .loop ∧ s.pins.passengerClosed = false) ∨
          (recorded .speed ∧ ∀ c : Axle, ∃ cause run, (axleGet s.speed.axles c).health = .faulted cause run) ∨
          (recorded .consist ∧ s.consist.state ≠ .single ∧ s.consist.state ≠ .coupled) ∨
          (recorded .partner ∧ s.consist.state = .coupled ∧
            ∃ f, s.consist.latest = some f ∧ f.ownSources ≠ 0) ∨
          (recorded .command ∧ s.emerg.commandHold = true)) → refuses .sourceActive) ∧
      (s.speed.standstill = true → (∀ src, recorded src → conditionClear e s src = true) →
        ((s.slot e).fresh = false ∨ (s.slot e).lever = .emergency ∨
          ∃ v : Int, (s.slot e).lever = .number v ∧ -50 < v) → refuses .lever))

/-- DOOR RELEASE at standstill opens a side: AT_STOP with the side added, its enable and the sign on, 200 ms pulses to the doors
of the set on that side, DOORS_RELEASED; a side already released is taken without change. From DEPARTING the early doors join
the set, an early assist is carried over with its event, and the close odometer and the early items are dropped. The answer
names the sides LEFT and RIGHT from the sending end (R147, R148). Which early door the assist event names is free (log 20). -/
def Obligations.DoorReleaseOpensASide : Prop :=
  ∀ (e : End) (right : Bool) (tag : Byte) (s : State), s.auth.record = .active e → s.speed.standstill = true →
    let c : Command := ⟨0x13, tag, [if right then 2 else 1]⟩
    let two := if e = .a then right else !right
    let one' := s.stop.own.side1 || !two
    let two' := s.stop.own.side2 || two
    let sides : Byte := match e with
      | .a => (if one' then 1 else 0) + (if two' then 2 else 0)
      | .b => (if two' then 1 else 0) + (if one' then 2 else 0)
    let doors := s.stop.own.doors ||| s.stop.own.earlyDoors
    let carried := s.stop.own.earlyAssist && !s.stop.own.assist
    ((s.stop.own.phase = .none ∨ s.stop.own.phase = .requested ∨
        (s.stop.own.phase = .atStop ∧ (if two then s.stop.own.side2 else s.stop.own.side1) = false)) →
      Takes (endPort e) c (.doorRelease (endPort e)) s (accepted c [sides])
        ([.stopState, .pulses] ++ reporting ++ closing) fun t =>
          t.stop.own = { s.stop.own with phase := .atStop, side1 := one', side2 := two' } ∧
          (∀ d : Fin 8, t.stop.pulses[d] =
            if s.stop.own.doors.getLsbD d.val = true ∧ (4 ≤ d.val ↔ two = true) then some 200 else s.stop.pulses[d]) ∧
          t.outputs.enable1 = one' ∧ t.outputs.enable2 = two' ∧ t.outputs.sign = true ∧
          Logged [.doorsReleased two] [] s t) ∧
    (s.stop.own.phase = .atStop → (if two then s.stop.own.side2 else s.stop.own.side1) = true →
      Takes (endPort e) c (.doorRelease (endPort e)) s (accepted c [sides]) [] fun _ => True) ∧
    (s.stop.own.phase = .departing →
      Takes (endPort e) c (.doorRelease (endPort e)) s (accepted c [if right then 2 else 1])
        ([.stopState, .pulses, .choices] ++ reporting ++ closing) fun t =>
          t.stop.own = ⟨.atStop, doors, s.stop.own.assist || s.stop.own.earlyAssist, !two, two, none, false, 0, false⟩ ∧
          (∀ d : Fin 8, t.stop.pulses[d] =
            if doors.getLsbD d.val = true ∧ (4 ≤ d.val ↔ two = true) then some 200 else s.stop.pulses[d]) ∧
          (carried = false → Logged [.doorsReleased two] [] s t) ∧
          (carried = true → ∃ d, (s.stop.own.earlyDoors.getLsbD d = true ∨ s.stop.own.earlyDoors = 0) ∧
            Logged [.assistRequested d, .doorsReleased two] [] s t))

/-- DOOR CLOSE in AT_STOP without assist departs: sides and pulses end, the odometer becomes the close odometer, DOORS_CLOSED;
ASSIST ACK clears a set assist flag (R148, R149, R150). -/
def Obligations.DoorCloseAndAssistAck : Prop :=
  ∀ (e : End) (tag : Byte) (s : State), s.auth.record = .active e →
    let close : Command := ⟨0x14, tag, []⟩
    let ack : Command := ⟨0x15, tag, []⟩
    (s.stop.own.phase = .atStop → s.stop.own.assist = false →
      Takes (endPort e) close (.doorClose (endPort e)) s (accepted close [])
        ([.stopState, .pulses] ++ reporting ++ closing) fun t =>
          t.stop.own = { s.stop.own with
            phase := .departing, side1 := false, side2 := false, closeOdo := some s.speed.odometer } ∧
          (∀ d : Fin 8, t.stop.pulses[d] = none) ∧ t.outputs.enable1 = false ∧ t.outputs.enable2 = false ∧
          t.outputs.autoOpen = 0 ∧ Logged [.doorsClosed] [] s t) ∧
    (s.stop.own.phase = .departing →
      Takes (endPort e) close (.doorClose (endPort e)) s (accepted close []) [] fun _ => True) ∧
    (s.stop.own.assist = true →
      Takes (endPort e) ack (.assistAck (endPort e)) s (accepted ack []) [.stopState] fun t =>
        t.stop.own = { s.stop.own with assist := false })

/-- The refusals of DOOR RELEASE, DOOR CLOSE and ASSIST ACK in the order of their tests (R147, R149, R150). -/
def Obligations.DoorCommandRefusals : Prop :=
  ∀ (e : End) (tag side : Byte) (s : State), (∀ n, s.auth.record ≠ .stabled n) →
    let release : Command := ⟨0x13, tag, [side]⟩
    let close : Command := ⟨0x14, tag, []⟩
    let ack : Command := ⟨0x15, tag, []⟩
    (s.auth.record ≠ .active e →
      Refuses (endPort e) release (.doorRelease (endPort e)) s .owner .notActive ∧
      Refuses (endPort e) close (.doorClose (endPort e)) s .owner .notActive ∧
      Refuses (endPort e) ack (.assistAck (endPort e)) s .owner .notActive) ∧
    (s.auth.record = .active e →
      (side ≠ 1 → side ≠ 2 → Refuses (endPort e) release (.doorRelease (endPort e)) s .owner .badField) ∧
      (side = 1 ∨ side = 2 → s.speed.standstill = false →
        Refuses (endPort e) release (.doorRelease (endPort e)) s .owner .moving) ∧
      (s.stop.own.phase = .none ∨ s.stop.own.phase = .requested →
        Refuses (endPort e) close (.doorClose (endPort e)) s .owner .nothing) ∧
      (s.stop.own.phase = .atStop → s.stop.own.assist = true →
        Refuses (endPort e) close (.doorClose (endPort e)) s .owner .assistPending) ∧
      (s.stop.own.assist = false → Refuses (endPort e) ack (.assistAck (endPort e)) s .owner .nothing))

/-- SELECT LEG gives the nearest record the new leg: REQUESTED with its timers at 2 s and 1 s, a request on JR while the radio
sends, JUNCTION_REQUESTED; without a nearest record the leg is held as pending. A LOCKED record refuses it (R110, R124). -/
def Obligations.SelectLegRequestsALeg : Prop :=
  ∀ (e : End) (leg : Leg) (tag : Byte) (s : State), s.auth.record = .active e → TableSound s →
    let c : Command := ⟨0x16, tag, [match leg with | .left => 1 | .straight => 2 | .right => 3]⟩
    (∀ x, Nearest s x → x.state ≠ .locked →
      Takes (endPort e) c (.selectLeg (endPort e)) s
        (accepted c [BitVec.ofNat 8 (x.junction / 256), BitVec.ofNat 8 x.junction])
        ([.table, .queues] ++ reporting ++ closing) fun t =>
          (∃ y, t.record x.junction = some y ∧ (y.sent = x.sent ∨ y.sent = true) ∧
            y = { x with leg := some leg, state := .requested, reportTimer := some 2000, reTimer := some 1000,
                         sent := y.sent }) ∧
          Logged [.junctionRequested x.junction (some leg)] [] s t ∧
          (s.wayside.sending.isSome = true →
            t.wayside.jr = joined (.request x.junction leg) s.wayside.jr ∧ t.junction.records =
              s.junction.records.map fun y => if y.junction = x.junction then
                { x with leg := some leg, state := .requested, reportTimer := some 2000, reTimer := some 1000 } else y)) ∧
    (∀ x, Nearest s x → x.state = .locked →
      Refuses (endPort e) c (.selectLeg (endPort e)) s .owner .locked) ∧
    ((∀ x ∈ s.junction.records, x.state = .onPoint) →
      Takes (endPort e) c (.selectLeg (endPort e)) s (accepted c [0, 0]) [.pendingItems] fun t =>
        t.junction.pendingLeg = some leg ∧ t.junction.pendingPermit = s.junction.pendingPermit)

/-- CANCEL LEG discards a pending leg, else cancels the nearest record: the entry for its junction leaves JR (R124, R132; log
32), a request once sent is followed by a cancel, at once on the air where the radio is idle, the record is freed,
JUNCTION_CANCELLED is appended, and the overflow junction takes the place (R109, R111). -/
def Obligations.CancelLegCancels : Prop :=
  ∀ (e : End) (tag : Byte) (s : State), s.auth.record = .active e → TableSound s →
    let c : Command := ⟨0x17, tag, []⟩
    (s.junction.pendingLeg ≠ none →
      Takes (endPort e) c (.cancelLeg (endPort e)) s (accepted c [0, 0]) [.pendingItems] fun t =>
        t.junction.pendingLeg = none ∧ t.junction.pendingPermit = s.junction.pendingPermit) ∧
    (s.junction.pendingLeg = none → s.junction.overflow = none → s.wayside.sending.isSome = true → ∀ x, Nearest s x →
      let kept := s.wayside.jr.filter fun y => decide (y.junction ≠ x.junction)
      let full := decide (4 ≤ kept.length)
      Takes (endPort e) c (.cancelLeg (endPort e)) s
        (accepted c [BitVec.ofNat 8 (x.junction / 256), BitVec.ofNat 8 x.junction])
        ([.table, .queues] ++ reporting ++ closing) fun t =>
          t.junction.records = s.junction.records.filter (fun y => decide (y.junction ≠ x.junction)) ∧
          t.junction.tableFull = false ∧ t.wayside.jq = s.wayside.jq.filter (fun j => decide (j ≠ x.junction)) ∧
          t.wayside.jr = (if x.sent ∧ full = false then kept ++ [.cancel x.junction] else kept) ∧
          Logged (if x.sent && full then [.cancelDropped x.junction, .junctionCancelled x.junction]
            else [.junctionCancelled x.junction]) [] s t) ∧
    (s.junction.pendingLeg = none → s.junction.overflow = none → s.wayside.sending = none →
      s.wayside.jr = [] → s.wayside.jq = [] → s.wayside.sp = [] → s.wayside.vx = [] → ∀ x, Nearest s x → x.sent = true →
      Takes (endPort e) c (.cancelLeg (endPort e)) s
        (accepted c [BitVec.ofNat 8 (x.junction / 256), BitVec.ofNat 8 x.junction])
        ([.table, .queues] ++ reporting ++ closing) fun t =>
          t.junction.records = s.junction.records.filter (fun y => decide (y.junction ≠ x.junction)) ∧
          t.wayside.jr = [] ∧ t.wayside.sending = some ⟨.pointCancel x.junction s.vl.vehicleNumber, .jr, 12⟩ ∧
          Logged [.junctionCancelled x.junction] [] s t) ∧
    (s.junction.pendingLeg = none → ∀ o, s.junction.overflow = some o → o.leg = none → ∀ x, Nearest s x → x.sent = false →
      Takes (endPort e) c (.cancelLeg (endPort e)) s
        (accepted c [BitVec.ofNat 8 (x.junction / 256), BitVec.ofNat 8 x.junction])
        ([.table, .queues] ++ reporting ++ closing) fun t =>
          t.junction.records = s.junction.records.filter (fun y => decide (y.junction ≠ x.junction)) ++
            [⟨o.junction, none, o.ceiling, o.distance, o.length, o.marker, none, .unplanned, none, o.permit, false,
              none, none⟩] ∧
          t.junction.overflow = none ∧ t.junction.tableFull = false ∧
          Logged [.junctionCancelled x.junction, .junctionUnplanned o.junction] [] s t) ∧
    (s.junction.pendingLeg = none → (∀ x ∈ s.junction.records, x.state = .onPoint) →
      Refuses (endPort e) c (.cancelLeg (endPort e)) s .owner .nothing)

/-- PERMIT at v_ref of 50 or less sets the permit flag of the nearest record, or holds a pending permit; above 50 it is refused.
SELECT LEG, CANCEL LEG and PERMIT from an end that is not active, and an undefined leg, are refused (R110, R111, R112). -/
def Obligations.PermitAndLegRefusals : Prop :=
  ∀ (e : End) (tag leg : Byte) (s : State), TableSound s →
    let select : Command := ⟨0x16, tag, [leg]⟩
    let cancel : Command := ⟨0x17, tag, []⟩
    let permit : Command := ⟨0x18, tag, []⟩
    (s.auth.record = .active e → s.speed.vRef ≤ 50 →
      (∀ x, Nearest s x →
        Takes (endPort e) permit (.permit (endPort e)) s
          (accepted permit [BitVec.ofNat 8 (x.junction / 256), BitVec.ofNat 8 x.junction]) (.table :: closing) fun t =>
            t.junction.records = s.junction.records.map fun y =>
              if y.junction = x.junction then { x with permit := true } else y) ∧
      ((∀ x ∈ s.junction.records, x.state = .onPoint) →
        Takes (endPort e) permit (.permit (endPort e)) s (accepted permit [0, 0]) [.pendingItems] fun t =>
          t.junction.pendingPermit = true ∧ t.junction.pendingLeg = s.junction.pendingLeg)) ∧
    (s.auth.record = .active e → 50 < s.speed.vRef →
      Refuses (endPort e) permit (.permit (endPort e)) s .owner .moving) ∧
    ((∀ n, s.auth.record ≠ .stabled n) → (leg = 0 ∨ 3 < leg.toNat) →
      Refuses (endPort e) select (.selectLeg (endPort e)) s .owner .badField) ∧
    ((∀ n, s.auth.record ≠ .stabled n) → s.auth.record ≠ .active e →
      (leg = 1 ∨ leg = 2 ∨ leg = 3 → Refuses (endPort e) select (.selectLeg (endPort e)) s .owner .notActive) ∧
      Refuses (endPort e) cancel (.cancelLeg (endPort e)) s .owner .notActive ∧
      Refuses (endPort e) permit (.permit (endPort e)) s .owner .notActive)

/-- ENQUIRE POINT from either end: a fresh report or a held one is answered, otherwise the slot waits with a query offered and
the command is refused RETRY; a slot held for another junction refuses HELD; a number out of range BAD_FIELD (R115, R125). -/
def Obligations.EnquirePointMeetsTheSlot : Prop :=
  ∀ (e : End) (tag j1 j0 : Byte) (s : State), (∀ n, s.auth.record ≠ .stabled n) →
    let c : Command := ⟨0x19, tag, [j1, j0]⟩
    let j := (j1 ++ j0 : BitVec 16).toNat
    let data := fun r : Report => [j1, j0, BitVec.ofNat 8 (positionCode r.position + 16 * lockCode r.lock),
      BitVec.ofNat 8 (lockVehicle r.lock / 256), BitVec.ofNat 8 (lockVehicle r.lock), BitVec.ofNat 8 (r.age / 256),
      BitVec.ofNat 8 r.age]
    let waits := Takes (endPort e) c (.enquirePoint (endPort e)) s (refusedBy .owner c .retry)
      [.enquiry, .queues, .table] fun t => t.junction.enquiry = .waiting j 3000 ∧
        (s.wayside.sending.isSome = true → t.junction.records = s.junction.records ∧ t.wayside.jq =
          (if j ∈ s.wayside.jq ∨ 2 ≤ s.wayside.jq.length then s.wayside.jq else s.wayside.jq ++ [j]))
    ((j = 0 ∨ 4095 < j) → Refuses (endPort e) c (.enquirePoint (endPort e)) s .owner .badField) ∧
    (1 ≤ j → j ≤ 4095 →
      (s.junction.enquiry = .free →
        (∀ x, s.record j = some x → ∀ r, x.lastReport = some r → r.age < 500 →
          Takes (endPort e) c (.enquirePoint (endPort e)) s (accepted c (data r)) [] fun _ => True) ∧
        ((∀ x r, s.record j = some x → x.lastReport = some r → 500 ≤ r.age) → waits)) ∧
      ((∃ n, s.junction.enquiry = .waiting j n) → waits) ∧
      (∀ r n, s.junction.enquiry = .ready j r n →
        Takes (endPort e) c (.enquirePoint (endPort e)) s (accepted c (data r)) [.enquiry] fun t =>
          t.junction.enquiry = .free) ∧
      (∀ k, k ≠ j → ((∃ n, s.junction.enquiry = .waiting k n) ∨ ∃ r n, s.junction.enquiry = .ready k r n) →
        Refuses (endPort e) c (.enquirePoint (endPort e)) s .owner .held))

/-! ### The commands of the vehicle link -/

/-- PLAN CLEAR empties the plan and answers the number of entries removed; nothing else changes (R92). -/
def Obligations.PlanClearEmptiesThePlan : Prop :=
  ∀ (tag : Byte) (s : State), (∀ n, s.auth.record ≠ .stabled n) →
    Takes .vl ⟨0x21, tag, []⟩ (.planClear .vl) s
      (accepted ⟨0x21, tag, []⟩ [BitVec.ofNat 8 s.junction.plan.length]) [.plan] fun t => t.junction.plan = []

/-- PLAN APPEND adds an entry in range at the tail and answers the count; a field out of range is BAD_FIELD, a full plan FULL, a
STABLED part refuses it STABLED (R91). -/
def Obligations.PlanAppendAddsAnEntry : Prop :=
  ∀ (tag j1 j0 leg c1 c0 distance length : Byte) (s : State),
    let c : Command := ⟨0x20, tag, [j1, j0, leg, c1, c0, distance, length]⟩
    let j := (j1 ++ j0 : BitVec 16).toNat
    let ceiling := (c1 ++ c0 : BitVec 16).toNat
    let inRange := (1 ≤ j ∧ j ≤ 4095) ∧ (leg = 1 ∨ leg = 2 ∨ leg = 3) ∧ (50 ≤ ceiling ∧ ceiling ≤ 250) ∧
      (5 ≤ distance.toNat ∧ distance.toNat ≤ 250) ∧ (5 ≤ length.toNat ∧ length.toNat ≤ 60)
    ((∃ n, s.auth.record = .stabled n) → Refuses .vl c (.planAppend .vl) s .owner .stabled) ∧
    ((∀ n, s.auth.record ≠ .stabled n) →
      (¬ inRange → Refuses .vl c (.planAppend .vl) s .owner .badField) ∧
      (inRange → 32 ≤ s.junction.plan.length → Refuses .vl c (.planAppend .vl) s .owner .full) ∧
      (inRange → s.junction.plan.length < 32 →
        Takes .vl c (.planAppend .vl) s (accepted c [BitVec.ofNat 8 (s.junction.plan.length + 1)]) [.plan] fun t =>
          t.junction.plan = s.junction.plan ++
            [⟨j, if leg = 1 then .left else if leg = 2 then .straight else .right, ceiling, distance.toNat,
              length.toNat⟩]))

/-- READ EVENT, in every authority state, removes the oldest entry and answers it; on an empty queue it is refused EMPTY and
raises READ_EMPTY, whose NOTICE stands before the answer (log 9). EVENTS_WAITING does not change (R208). -/
def Obligations.ReadEventTakesTheOldest : Prop :=
  ∀ (tag : Byte) (s : State),
    let c : Command := ⟨0x22, tag, []⟩
    (∀ e es, s.vl.events = e :: es →
      Takes .vl c (.readEvent .vl) s (accepted c e.bytes) [.events] fun t => t.vl.events = es) ∧
    (s.vl.events = [] →
      Takes .vl c (.readEvent .vl) s (refusedBy .owner c .empty) ([.flags, .owed, .port .vl] ++ closing) fun t =>
        Logged [] [.readEmpty] s t ∧ t.outputs = s.outputs ∧ t.sound = s.sound ∧ t.junction = s.junction)

/-- APPLY EMERGENCY sets the command hold and source COMMAND in every state but STABLED; RELEASE COMMAND SOURCE clears the hold
and leaves the source recorded, or is refused NOTHING; the first source, the event and the release condition follow R68 and R72;
both are refused STABLED while STABLED (R20, R70; log 9 for a NOTICE before the answer). -/
def Obligations.CommandSourceAppliesAndReleases : Prop :=
  ∀ (tag : Byte) (s : State),
    let apply : Command := ⟨0x23, tag, []⟩
    let release : Command := ⟨0x24, tag, []⟩
    ((∃ n, s.auth.record = .stabled n) → Refuses .vl apply (.applyEmergency .vl) s .owner .stabled ∧
      Refuses .vl release (.releaseCommandSource .vl) s .owner .stabled) ∧
    ((∀ n, s.auth.record ≠ .stabled n) → Takes .vl apply (.applyEmergency .vl) s (accepted apply [])
      ([.latch, .commandHold] ++ reporting ++ closing) (fun t =>
        t.emerg.commandHold = true ∧ (∀ e, conditionClear e t .command = false) ∧
        t.emerg.recorded = s.emerg.recorded ||| 0x0200 ∧
        t.emerg.first = (if s.emerg.recorded = 0 then some .command else s.emerg.first) ∧
        (s.emerg.recorded = 0 → Logged [.emergencyApplied .command] [.emergency] s t) ∧
        (s.emerg.recorded ≠ 0 → s.emerg.recorded.getLsbD 9 = false → Logged [.emergencyAdded .command] [] s t) ∧
        (s.emerg.recorded.getLsbD 9 = true → Logged [] [] s t))) ∧
    ((∀ n, s.auth.record ≠ .stabled n) → s.emerg.commandHold = true →
      Takes .vl release (.releaseCommandSource .vl) s (accepted release []) [.commandHold] fun t =>
        t.emerg.commandHold = false ∧ ∀ e, conditionClear e t .command = true) ∧
    ((∀ n, s.auth.record ≠ .stabled n) → s.emerg.commandHold = false →
      Refuses .vl release (.releaseCommandSource .vl) s .owner .nothing)

/-- SEND TELEGRAM queues its six bytes on VX and answers the entries VX then holds, counted before an idle radio takes the
telegram at once (R126, R128, R129; log 35); a full VX refuses FULL. -/
def Obligations.SendTelegramQueuesOnVx : Prop :=
  ∀ (tag : Byte) (payload : List Byte) (s : State), (∀ n, s.auth.record ≠ .stabled n) → payload.length = 6 →
    let c : Command := ⟨0x25, tag, payload⟩
    (s.wayside.vx.length < 4 →
      Takes .vl c (.sendTelegram .vl) s (accepted c [BitVec.ofNat 8 (s.wayside.vx.length + 1)]) [.queues, .table] fun t =>
        (s.wayside.sending.isSome = true →
          t.wayside = { s.wayside with vx := s.wayside.vx ++ [payload] } ∧ t.junction.records = s.junction.records) ∧
        (s.wayside.sending = none → s.wayside.jr = [] → s.wayside.jq = [] → s.wayside.sp = [] → s.wayside.vx = [] →
          t.wayside = { s.wayside with
            ptr0 := .jr, ptr1 := .jr, parked := .vx,
            sending := some ⟨.service s.vl.vehicleNumber payload, .vx, 12⟩ } ∧
          t.junction.records = s.junction.records)) ∧
    (4 ≤ s.wayside.vx.length → Refuses .vl c (.sendTelegram .vl) s .owner .full)

/-- STABLE lays the part up: STABLED with the threshold, slots emptied, sounds silent, queues and held slot empty, the stop
state NONE, the brake line and every output off; its tests refuse in their order (R19, R20, R136, R160, R181, R194; log 10 for
AUTHORITY_CHANGED before CONSIST_CHANGED; log 9 for a NOTICE before the answer). -/
def Obligations.StableLaysThePartUp : Prop :=
  ∀ (tag n : Byte) (s : State),
    let c : Command := ⟨0x27, tag, [n]⟩
    (n.toNat ≤ 7 → s.auth.record = .dark → s.speed.standstill = true → s.pins.key.a = false → s.pins.key.b = false →
      s.consist.state = .single → s.consist.role = none →
      Takes .vl c (.stable .vl) s (accepted c [])
        ([.record, .slots, .stopState, .mirror, .pulses, .channels, .forcedOff, .queues, .heldPriority, .consist] ++
          reporting ++ closing) fun t =>
          t.auth.record = .stabled n.toNat ∧ (∀ e : End, t.slot e = ⟨.number 0, false, false, false, false, false⟩) ∧
          t.stop.own = ⟨.none, 0, false, false, false, none, false, 0, false⟩ ∧ t.stop.mirror = none ∧
          (∀ d : Fin 8, t.stop.pulses[d] = none) ∧ (∀ k : Speaker, t.sound.channels.get k = ⟨none, 0, []⟩) ∧
          t.wayside = { s.wayside with jr := [], jq := [], sp := [], vx := [], held := none } ∧
          t.consist = ⟨.single, none, none, 0, none, none, none, none⟩ ∧
          t.outputs = ⟨false, false, false, 0, false, ⟨.off, .off, .off, .off, .off⟩⟩ ∧
          Logged [.authorityChanged ⟨.stabled, none, none⟩ none] [] s t) ∧
    (n.toNat ≤ 7 → s.auth.record = .dark → s.speed.standstill = true → s.pins.key.a = false → s.pins.key.b = false →
      Paired s → ConsistSound s →
      Takes .vl c (.stable .vl) s (accepted c [])
        ([.record, .slots, .stopState, .mirror, .pulses, .channels, .forcedOff, .queues, .heldPriority, .consist,
          .exchange] ++ reporting ++ closing) fun t =>
          t.auth.record = .stabled n.toNat ∧ t.consist = ⟨.single, none, none, 0, none, none, none, none⟩ ∧
          Logged [.authorityChanged ⟨.stabled, none, none⟩ none, .consistChanged .single none 0] [] s t) ∧
    ((∃ k, s.auth.record = .stabled k) → Refuses .vl c (.stable .vl) s .owner .stabled) ∧
    ((∀ k, s.auth.record ≠ .stabled k) →
      (7 < n.toNat → Refuses .vl c (.stable .vl) s .owner .badField) ∧
      (n.toNat ≤ 7 → s.auth.record ≠ .dark → Refuses .vl c (.stable .vl) s .owner .notDark) ∧
      (n.toNat ≤ 7 → s.auth.record = .dark → s.speed.standstill = false → Refuses .vl c (.stable .vl) s .owner .moving) ∧
      (n.toNat ≤ 7 → s.auth.record = .dark → s.speed.standstill = true → (s.pins.key.a || s.pins.key.b) = true →
        Refuses .vl c (.stable .vl) s .owner .keyOn) ∧
      (n.toNat ≤ 7 → s.auth.record = .dark → s.speed.standstill = true → s.pins.key.a = false → s.pins.key.b = false →
        s.consist.state ≠ .single → ¬ (s.consist.state = .coupled ∧ s.consist.role = some .neutral) →
        Refuses .vl c (.stable .vl) s .owner .consistFault))

/-- WAKE changes nothing in a part that is not STABLED, wakes a STABLED part with a threshold below 5, and is refused STABLED
with a threshold of 5 or more; waking restores the brake line of a clear latch and tests the passenger emergency loop (R20 to
R23, R69, R71; log 10 for AUTHORITY_CHANGED before WOKEN; log 9 for a NOTICE before the answer). -/
def Obligations.WakeWakesBelowFive : Prop :=
  ∀ (tag : Byte) (s : State),
    let c : Command := ⟨0x28, tag, []⟩
    ((∀ n, s.auth.record ≠ .stabled n) → Takes .vl c (.wake .vl) s (accepted c []) [] fun _ => True) ∧
    (∀ n, s.auth.record = .stabled n → 5 ≤ n → Refuses .vl c (.wake .vl) s .owner .stabled) ∧
    (∀ n, s.auth.record = .stabled n → n < 5 → ConsistSound s →
      Takes .vl c (.wake .vl) s (accepted c []) ([.record, .latch] ++ reporting ++ closing) fun t =>
        t.auth.record = .dark ∧
        (s.pins.passengerClosed = true → t.emerg.recorded = s.emerg.recorded ∧
          t.outputs.brakeLine = (s.emerg.armed && decide (s.emerg.recorded = 0)) ∧
          Logged [.authorityChanged ⟨.dark, none, none⟩ none, .woken .command] [] s t) ∧
        (s.pins.passengerClosed = false → t.emerg.recorded = s.emerg.recorded ||| 0x0010))

/-- SOUND TEST in DARK places a TEST request and answers where it stands, restarts a TEST entry that is present, or with NONE
removes it; outside DARK it is refused NOT_DARK, for an undefined channel or pattern BAD_FIELD, and while STABLED STABLED (R20,
R171, R172, R176, R180). The age of a new entry is the count of entries that have joined (log 17). -/
def Obligations.SoundTestPlacesARequest : Prop :=
  ∀ (tag ch pat : Byte) (s : State),
    let c : Command := ⟨0x29, tag, [ch, pat]⟩
    ((∃ i, s.auth.record = .stabled i) → Refuses .vl c (.soundTest .vl) s .owner .stabled) ∧
    ((∀ i, s.auth.record ≠ .stabled i) →
      (5 ≤ ch.toNat ∨ (16 ≤ pat.toNat ∧ pat ≠ 0xFF) → Refuses .vl c (.soundTest .vl) s .owner .badField) ∧
      (ch.toNat < 5 → pat.toNat < 16 ∨ pat = 0xFF → s.auth.record ≠ .dark →
        Refuses .vl c (.soundTest .vl) s .owner .notDark) ∧
      ∀ k : Speaker, ch.toNat = (match k with | .bell => 0 | .horn => 1 | .chime => 2 | .buzzerA => 3 | .buzzerB => 4) →
        s.auth.record = .dark →
        let channel := s.sound.channels.get k
        let takes := fun (data : List Byte) (effect : State → Prop) =>
          Takes .vl c (.soundTest .vl) s (accepted c data) closing effect
        (∀ n : Fin 16, pat.toNat = n.val →
          let priority := s.sound.patterns[n].priority
          let muted := k = .chime ∧ s.vl.quiet = true ∧ priority < 4
          let entry : SoundEntry := ⟨.test, n, 1, 0, s.sound.joins, decide (s.sound.patterns[n].rep = .held)⟩
          (muted → Takes .vl c (.soundTest .vl) s (accepted c [2]) [] fun _ => True) ∧
          (¬ muted → ChannelSound s.sound.patterns channel →
            (channel.playing = none → takes [0] fun t =>
              (t.sound.channels.get k).playing = some entry ∧ (t.sound.channels.get k).waiting = []) ∧
            (∀ e, channel.playing = some e → channel.holds .test = false →
              (s.sound.patterns[e.pattern].priority < priority →
                takes [0] fun t => (t.sound.channels.get k).playing = some entry) ∧
              (priority ≤ s.sound.patterns[e.pattern].priority → channel.waiting.length < 3 → takes [1] fun t =>
                (t.sound.channels.get k).playing = some e ∧ entry ∈ (t.sound.channels.get k).waiting) ∧
              (priority ≤ s.sound.patterns[e.pattern].priority → channel.waiting.length = 3 →
                (∀ w ∈ channel.waiting, priority ≤ s.sound.patterns[w.pattern].priority) →
                (∀ w ∈ channel.waiting, w.age < s.sound.joins) → takes [2] fun t =>
                  (t.sound.channels.get k).playing = some e ∧ (t.sound.channels.get k).waiting = channel.waiting) ∧
              (priority ≤ s.sound.patterns[e.pattern].priority → channel.waiting.length = 3 →
                (∃ w ∈ channel.waiting, s.sound.patterns[w.pattern].priority < priority) → takes [1] fun t =>
                  (t.sound.channels.get k).playing = some e ∧ entry ∈ (t.sound.channels.get k).waiting)) ∧
            (∀ e, channel.playing = some e → e.source = .test → takes [0] fun t =>
              (t.sound.channels.get k).playing = some { entry with age := e.age } ∧
              (t.sound.channels.get k).waiting = channel.waiting) ∧
            (∀ e w, channel.playing = some e → e.source ≠ .test → w ∈ channel.waiting → w.source = .test →
              takes [1] fun t => (t.sound.channels.get k).playing = some e ∧
                { entry with age := w.age } ∈ (t.sound.channels.get k).waiting ∧
                (t.sound.channels.get k).waiting.length = channel.waiting.length))) ∧
        (pat = 0xFF → ChannelSound s.sound.patterns channel →
          (channel.holds .test = true → takes [] fun t => (t.sound.channels.get k).holds .test = false) ∧
          (channel.holds .test = false → Refuses .vl c (.soundTest .vl) s .owner .nothing)))

/-- CLEAR FLAGS in every authority state, SET NOTICE MASK outside STABLED and FORCE FLAGS in DARK act on the flag set named and
answer the set that results, and a forced flag that rises enabled gives a NOTICE before the answer (log 9); a set that names bit
15 is BAD_FIELD, a FORCE FLAGS outside DARK is NOT_DARK (R209 to R211; log 34 for NOT_DARK before BAD_FIELD), and STABLED where
R20 refuses it. -/
def Obligations.NoticeFlagCommands : Prop :=
  ∀ (tag f1 f0 : Byte) (s : State),
    let clear : Command := ⟨0x2A, tag, [f1, f0]⟩
    let mask : Command := ⟨0x2B, tag, [f1, f0]⟩
    let force : Command := ⟨0x2C, tag, [f1, f0]⟩
    let w : Word16 := f1 ++ f0
    let shown := fun x : Word16 => [x.extractLsb' 8 8, x.extractLsb' 0 8]
    (w.getLsbD 15 = false →
      Takes .vl clear (.clearFlags .vl) s (accepted clear (shown (s.vl.flags &&& ~~~w))) [.flags] (fun t =>
        t.vl.flags = s.vl.flags &&& ~~~w) ∧
      ((∀ n, s.auth.record ≠ .stabled n) →
        Takes .vl mask (.setNoticeMask .vl) s (accepted mask [f1, f0]) [.mask] fun t => t.vl.mask = w) ∧
      (s.auth.record = .dark →
        Takes .vl force (.forceFlags .vl) s (accepted force (shown (s.vl.flags ||| w))) [.flags, .owed] fun t =>
          t.vl.flags = s.vl.flags ||| w ∧
          (w &&& ~~~s.vl.flags &&& s.vl.mask ≠ 0 → ∃ before, (t.port .vl).transmit =
            before ++ [.notice (s.vl.flags ||| w), accepted force (shown (s.vl.flags ||| w))]))) ∧
    (w.getLsbD 15 = true →
      Refuses .vl clear (.clearFlags .vl) s .owner .badField ∧
      ((∀ n, s.auth.record ≠ .stabled n) → Refuses .vl mask (.setNoticeMask .vl) s .owner .badField) ∧
      (s.auth.record = .dark → Refuses .vl force (.forceFlags .vl) s .owner .badField)) ∧
    ((∀ n, s.auth.record ≠ .stabled n) → s.auth.record ≠ .dark →
      Refuses .vl force (.forceFlags .vl) s .owner .notDark) ∧
    ((∃ n, s.auth.record = .stabled n) → Refuses .vl mask (.setNoticeMask .vl) s .owner .stabled ∧
      Refuses .vl force (.forceFlags .vl) s .owner .stabled)

/-- In DARK at standstill every CONFIGURE item with its fields in range is taken: its setting is written, nothing else changes
but what the item's rule adds, and the answer names the item type (R41, R89, R130, R139, R165, R166, R205, R206). -/
def Obligations.ConfigureItemsTake : Prop :=
  ∀ (tag : Byte) (s : State), s.auth.record = .dark → s.speed.standstill = true →
    let takes := fun (fields : List Byte) (item : Byte) (i : Instr) (parts : List Part) (effect : State → Prop) =>
      Takes .vl ⟨0x26, tag, item :: fields⟩ i s (accepted ⟨0x26, tag, item :: fields⟩ [item]) parts effect
    (∀ b1 b0 : Byte, let n := (b1 ++ b0 : BitVec 16).toNat
      (1 ≤ n → n ≤ 9999 → takes [b1, b0] 1 (.configureVehicleNumber .vl) [.identity] fun t =>
        t.vl.vehicleNumber = n ∧ t.vl.rank = s.vl.rank ∧ t.vl.length = s.vl.length) ∧
      (100 ≤ n → n ≤ 600 → takes [b1, b0] 3 (.configureLength .vl) [.identity] fun t =>
        t.vl.length = n ∧ t.vl.rank = s.vl.rank ∧ t.vl.vehicleNumber = s.vl.vehicleNumber) ∧
      (500 ≤ n → n ≤ 5000 → takes [b1, b0] 4 (.configurePulseLength .vl) [.speed] fun t =>
        t.speed = { s.speed with pulseLength := n })) ∧
    (∀ r : Byte, takes [r] 2 (.configureRank .vl) [.identity] fun t =>
      t.vl.rank = r.toNat ∧ t.vl.vehicleNumber = s.vl.vehicleNumber ∧ t.vl.length = s.vl.length) ∧
    (∀ (n : Fin 32) (line cls door : Byte) (d : Fin 8), line.toNat = n.val → door.toNat = d.val → cls.toNat ≤ 2 →
      takes [line, cls, door] 5 (.configureInputMapLine .vl) [.lines] fun t =>
        t.stop.lines[n] = ⟨if cls = 0 then .off else if cls = 1 then .standard else .assist, d, .idle, 0, 0⟩ ∧
        ∀ m : Fin 32, m ≠ n → t.stop.lines[m] = s.stop.lines[m]) ∧
    (∀ (n : Fin 16) (pat priority rep count : Byte), pat.toNat = n.val → priority.toNat ≤ 7 → rep.toNat ≤ 15 →
      1 ≤ count.toNat → count.toNat ≤ 8 → (n = 7 → priority = 7 ∧ rep = 3) →
      takes [pat, priority, rep, count] 6 (.configurePatternHead .vl) (.patterns :: closing) fun t =>
        t.sound.patterns[n] = { s.sound.patterns[n] with
          priority := priority.toNat, rep := if rep = 0 then .held else .times rep.toNat, count := count.toNat } ∧
        (∀ m : Fin 16, m ≠ n → t.sound.patterns[m] = s.sound.patterns[m]) ∧
        ∀ k e, (s.sound.channels.get k).playing = some e → (t.sound.channels.get k).playing =
          some (if e.pattern = n then { e with step := 1, repeats := 0 } else e)) ∧
    (∀ (n : Fin 16) (pat first : Byte) (steps : List (Byte × Byte)), pat.toNat = n.val → 1 ≤ first.toNat →
      1 ≤ steps.length → steps.length ≤ 4 → first.toNat + steps.length ≤ 9 →
      (∀ x ∈ steps, x.1.toNat ≤ 8 ∧ 1 ≤ x.2.toNat) →
      takes (pat :: first :: steps.flatMap fun x => [x.1, x.2]) 7 (.configurePatternSteps .vl) (.patterns :: closing)
        fun t =>
          (∀ m : Fin 16, m ≠ n → t.sound.patterns[m] = s.sound.patterns[m]) ∧
          (t.sound.patterns[n].priority = s.sound.patterns[n].priority ∧ t.sound.patterns[n].rep =
            s.sound.patterns[n].rep ∧ t.sound.patterns[n].count = s.sound.patterns[n].count) ∧
          (∀ i : Fin 8, t.sound.patterns[n].steps[i] =
            if first.toNat ≤ i.val + 1 then
              match steps[i.val + 1 - first.toNat]? with
              | some x => ⟨if x.1 = 0 then .off else if x.1 = 8 then .on else .tone x.1.toNat, x.2.toNat⟩
              | none => s.sound.patterns[n].steps[i]
            else s.sound.patterns[n].steps[i]) ∧
          ∀ k e, (s.sound.channels.get k).playing = some e → (t.sound.channels.get k).playing =
            some (if e.pattern = n then { e with step := 1, repeats := 0 } else e)) ∧
    (takes [1] 8 (.configureVigilanceAction .vl) [.vigilanceSetting] fun t =>
      t.emerg.action = .brake ∧ t.emerg.locked = true) ∧
    (s.emerg.locked = false → takes [0] 8 (.configureVigilanceAction .vl) [.vigilanceSetting] fun t =>
      t.emerg.action = .warnOnly ∧ t.emerg.locked = false) ∧
    (∀ level : Byte, level.toNat ≤ 1 →
      takes [0, level] 9 (.configureSourceLevel .vl) [.levels] (fun t =>
        t.wayside.levels = { s.wayside.levels with jr := decide (level = 1) }) ∧
      takes [1, level] 9 (.configureSourceLevel .vl) [.levels] (fun t =>
        t.wayside.levels = { s.wayside.levels with jq := decide (level = 1) }) ∧
      takes [2, level] 9 (.configureSourceLevel .vl) [.levels] fun t =>
        t.wayside.levels = { s.wayside.levels with sp := decide (level = 1) }) ∧
    (∀ (i : Fin 4) (m t1 t0 edge pat : Byte), m.toNat = i.val → (t1 ++ t0 : BitVec 16).toNat ≤ 1000 → edge.toNat ≤ 3 →
      (pat = 0xFF ∨ pat.toNat < 16) →
      takes [m, t1, t0, edge, pat] 10 (.configureBandMonitor .vl) [.speed] fun t =>
        let threshold := (t1 ++ t0 : BitVec 16).toNat
        t.speed.monitors[i].threshold = threshold ∧
        t.speed.monitors[i].edge =
          (if edge = 0 then .off else if edge = 1 then .rising else if edge = 2 then .falling else .both) ∧
        (t.speed.monitors[i].pattern.map Fin.val) = (if pat = 0xFF then none else some pat.toNat) ∧
        (t.speed.monitors[i].above = true ↔ threshold + 5 ≤ s.speed.vRef) ∧
        (∀ k : Fin 4, k ≠ i → t.speed.monitors[k] = s.speed.monitors[k]) ∧
        t.speed = { s.speed with monitors := t.speed.monitors })

/-- The refusals a port gives itself, in order: UNKNOWN_KIND, NOT_PERMITTED, BAD_FIELD for a payload length that does not match
its kind; then STABLED for every kind but CLAIM, READ EVENT, WAKE and CLEAR FLAGS; then the refusals of CONFIGURE in their order
(R20, R202, R205; the items' own ranges and LOCKED_SETTING by R41, R89, R130, R139, R165, R206). -/
def Obligations.PortAndConfigureRefusals : Prop :=
  ∀ (p : Port) (c : Command) (s : State),
    let k := c.kind.toNat
    let n := c.payload.length
    let cab := 0x10 ≤ k ∧ k ≤ 0x19
    let vehicle := 0x20 ≤ k ∧ k ≤ 0x2C
    let listed := ((p = .ca ∨ p = .cb) ∧ cab) ∨ (p = .vl ∧ vehicle)
    let fits := (k = 0x13 ∨ k = 0x16 ∨ k = 0x27 → n = 1) ∧ (k = 0x19 ∨ k = 0x29 ∨ k = 0x2A ∨ k = 0x2B ∨ k = 0x2C → n = 2) ∧
      (k = 0x20 → n = 7) ∧ (k = 0x25 → n = 6) ∧ (k = 0x26 → 2 ≤ n ∧ n ≤ 11) ∧
      (k = 0x10 ∨ k = 0x11 ∨ k = 0x12 ∨ k = 0x14 ∨ k = 0x15 ∨ k = 0x17 ∨ k = 0x18 ∨ k = 0x21 ∨ k = 0x22 ∨ k = 0x23 ∨
        k = 0x24 ∨ k = 0x28 → n = 0)
    let refuses := fun origin reason => Refuses p c (rowOf p c) s origin reason
    (¬ cab → ¬ vehicle → Refuses p c (.unknownKind p) s .port .unknownKind) ∧
    ((cab ∨ vehicle) → ¬ listed → refuses .port .notPermitted) ∧
    (listed → ¬ fits → refuses .port .badField) ∧
    (listed → fits → (∃ i, s.auth.record = .stabled i) → k ≠ 0x10 → k ≠ 0x22 → k ≠ 0x28 → k ≠ 0x2A →
      refuses .owner .stabled) ∧
    (p = .vl → k = 0x26 → fits → (∀ i, s.auth.record ≠ .stabled i) →
      (itemOf c.payload = none → Refuses p c (.configureUnknownItemType p) s .owner .badField) ∧
      (itemOf c.payload ≠ none →
        (s.auth.record ≠ .dark → refuses .owner .notDark) ∧
        (s.auth.record = .dark → s.speed.standstill = false → refuses .owner .moving) ∧
        (s.auth.record = .dark → s.speed.standstill = true →
          (∀ b1 b0 : Byte, let v := (b1 ++ b0 : BitVec 16).toNat
            (c.payload = [1, b1, b0] → v = 0 ∨ 9999 < v → refuses .owner .badField) ∧
            (c.payload = [3, b1, b0] → v < 100 ∨ 600 < v → refuses .owner .badField) ∧
            (c.payload = [4, b1, b0] → v < 500 ∨ 5000 < v → refuses .owner .badField) ∧
            (c.payload = [9, b1, b0] → 2 < b1.toNat ∨ 1 < b0.toNat → refuses .owner .badField)) ∧
          (∀ line cls door : Byte, c.payload = [5, line, cls, door] →
            32 ≤ line.toNat ∨ 2 < cls.toNat ∨ 8 ≤ door.toNat → refuses .owner .badField) ∧
          (∀ pat priority rep count : Byte, c.payload = [6, pat, priority, rep, count] →
            16 ≤ pat.toNat ∨ 7 < priority.toNat ∨ 15 < rep.toNat ∨ count = 0 ∨ 8 < count.toNat ∨
              (pat = 7 ∧ (priority ≠ 7 ∨ rep ≠ 3)) → refuses .owner .badField) ∧
          (∀ (pat first out units : Byte) (rest : List Byte), c.payload = 7 :: pat :: first :: out :: units :: rest →
            16 ≤ pat.toNat ∨ first = 0 ∨ 9 < first.toNat + 1 + rest.length / 2 ∨ 8 < out.toNat ∨ units = 0 →
            refuses .owner .badField) ∧
          (∀ a : Byte, c.payload = [8, a] → 1 < a.toNat → refuses .owner .badField) ∧
          (c.payload = [8, 0] → s.emerg.locked = true → refuses .owner .lockedSetting) ∧
          (∀ m t1 t0 edge pat : Byte, c.payload = [10, m, t1, t0, edge, pat] →
            4 ≤ m.toNat ∨ 1000 < (t1 ++ t0 : BitVec 16).toNat ∨ 3 < edge.toNat ∨ (16 ≤ pat.toNat ∧ pat ≠ 0xFF) →
            refuses .owner .badField))))

/-! ### Frames on the links -/

/-- A valid command frame refreshes its link and joins the port's FIFO; while the FIFO is full it is answered FULL by the port,
or, with no room for the answer either, dropped with RX_LOST. A LOST link becomes UP with LINK_CHANGED (R196, R198, R201). A
port takes no command while a claim of it is unanswered or an answer of it is held, and holds the answer of a command it takes
with its transmit FIFO full (R13, R202). -/
def Obligations.CommandArrivalQueuesOrAnswers : Prop :=
  ∀ (p : Port) (kind tag : Byte) (payload : List Byte) (s : State), Settled s →
    kind ∉ ([0x01, 0x02, 0x03, 0x40, 0x41, 0x42, 0x50, 0x51, 0x60] : List Byte) →
    let c : Command := ⟨kind, tag, payload⟩
    let silence := match p with | .ca => 200 | .cb => 200 | .vl => 500 | .kl => 100
    let refreshed := { s.port p with link := true, silence := some silence }
    ((s.port p).link = true →
      ((s.port p).commands.length < 8 →
        Gives (.commandArrival p kind tag payload) s fun t => Changes [.port p] s t ∧
          t.port p = { refreshed with commands := (s.port p).commands ++ [c] }) ∧
      (8 ≤ (s.port p).commands.length → (s.port p).transmit.length < 8 →
        Gives (.commandArrival p kind tag payload) s fun t => Changes [.port p] s t ∧
          t.port p = refreshed.withEntry (refusedBy .port c .full)) ∧
      (8 ≤ (s.port p).commands.length → 8 ≤ (s.port p).transmit.length →
        Gives (.commandArrival p kind tag payload) s fun t => Changes [.port p, .port .vl, .flags, .owed] s t ∧
          Logged [] [.rxLost] s t ∧ (p ≠ .vl → NoticeOnly s t) ∧ t.port p = refreshed)) ∧
    ((s.port p).link = false → (s.port p).commands.length < 8 →
      Gives (.commandArrival p kind tag payload) s fun t => Changes (.port p :: reporting) s t ∧
        Logged [.linkChanged p true] [.linkChange] s t ∧ (p ≠ .vl → NoticeOnly s t) ∧
        (t.port p).link = true ∧ (t.port p).silence = some silence ∧
        (t.port p).commands = (s.port p).commands ++ [c]) ∧
    ((s.port p).unanswered ≠ none ∨ (s.port p).heldAnswer ≠ none → exec (rowOf p c) s = .next s) ∧
    (let free := s.setPort p { s.port p with transmit := [] }
     8 ≤ (s.port p).transmit.length → Offered p c free → Settled free → s.vl.owed = false →
      Gives (rowOf p c) free fun t => Gives (rowOf p c) s fun u =>
        (u.port p).heldAnswer = (t.port p).transmit.getLast? ∧ (u.port p).unanswered = (t.port p).unanswered ∧
        (u.port p).transmit = (s.port p).transmit ∧ (u.port p).commands = (s.port p).commands.tail ∧
        ((t.port p).transmit.getLast? = none → (u.port p).unanswered = some c))

/-- A CAB STATE frame replaces its slot, FRESH, and nothing else but the link's silence timer, unless it is from the active end:
then the vigilance monitor is given the hold, a lever change and an acknowledge press in this order, released buttons release
their sound, and a lever at E sets LEVER. While STABLED the slot stays as it is (R2, R20, R86, R87, R88, R168, R200; log 19). -/
def Obligations.CabStateReachesItsSlot : Prop :=
  ∀ (e : End) (lever : Byte) (deadman ack bell horn : Bool) (s : State), Settled s →
    (s.port (endPort e)).link = true →
    let old := s.slot e
    let new : Slot := ⟨if lever = 0x80 then .emergency else .number lever.toInt, deadman, ack, bell, horn, true⟩
    let refreshed := { s.port (endPort e) with silence := some 200 }
    let row := Instr.cabState e lever deadman ack bell horn
    ((∃ n, s.auth.record = .stabled n) → Gives row s fun t => Changes [.port (endPort e)] s t ∧
      t.port (endPort e) = refreshed) ∧
    ((∀ n, s.auth.record ≠ .stabled n) → s.auth.record ≠ .active e → Gives row s fun t =>
      Changes [.port (endPort e), .slots] s t ∧ t.port (endPort e) = refreshed ∧ t.slot e = new ∧
      t.slot (otherEnd e) = s.slot (otherEnd e)) ∧
    (s.auth.record = .active e → Gives row s fun t =>
      let held := match s.emerg.vigil, deadman with
        | .quiet _, false => .warningHold 1500
        | .warningHold _, true => .quiet 0
        | .warningTime left, false => .warningHold (min 1500 left)
        | v, _ => v
      let moved := if new.lever = old.lever then held else match held with
        | .quiet _ => .quiet 0
        | .warningTime _ => .quiet 0
        | v => v
      let acked := if ack && !old.ack then
          match moved with
          | .quiet _ => .quiet 0
          | .warningTime _ => .quiet 0
          | .penalty => if deadman then .quiet 0 else .penalty
          | v => v
        else moved
      Changes ([.port (endPort e), .slots, .vigilance, .latch] ++ reporting ++ closing) s t ∧ NoticeOnly s t ∧
      t.port (endPort e) = refreshed ∧ t.slot e = new ∧ t.slot (otherEnd e) = s.slot (otherEnd e) ∧
      t.emerg.running = s.emerg.running ∧ t.emerg.vigil = (if s.emerg.running then acked else s.emerg.vigil) ∧
      (old.bell = true → bell = false → SoundsSound s → t.sound.channels.bell.holds .manualBell = false) ∧
      (old.horn = true → horn = false → SoundsSound s → t.sound.channels.horn.holds .manualHorn = false) ∧
      (lever = 0x80 → t.emerg.recorded.getLsbD 0 = true) ∧
      (lever ≠ 0x80 → t.emerg.recorded = s.emerg.recorded ∧
        (bell = true → old.bell = false → s.sound.channels.bell.playing = none →
          ∃ age, t.sound.channels.bell.playing = some ⟨.manualBell, 0, 1, 0, age, true⟩)))

/-- A VEHICLE STATE frame replaces the four held values, a ceiling above 800 taken as 800, a class above 3 as 3; the derate
request is the VEHICLE demand at its rung, and a target above the divisor raises the divisor (R80, R81, R200). A running settle
timer is dropped where the target meets the divisor, restarts where a target below it is higher than before, and runs on where
it is not (R82). -/
def Obligations.VehicleStateReplacesHeldValues : Prop :=
  ∀ (ceiling : Word16) (priorityClass quiet derate : Byte) (s : State), Settled s → (s.port .vl).link = true →
    LadderSound s →
    let rung := if derate.toNat ≤ 1 then none else if derate.toNat ≤ 4 then some derate.toNat
      else if derate.toNat ≤ 6 then some 6 else some 8
    let demands := { s.emerg.demands with vehicle := rung }
    Gives (.vehicleState ceiling priorityClass quiet derate) s fun t =>
      Changes ([.held, .ladder] ++ reporting) s t ∧ t.vl.lineCeiling = min ceiling.toNat 800 ∧
      t.vl.priorityClass = min priorityClass.toNat 3 ∧ (t.vl.quiet = true ↔ quiet ≠ 0) ∧
      (t.port .vl).silence = some 500 ∧ (t.port .vl).link = true ∧ (t.port .vl).commands = (s.port .vl).commands ∧
      t.emerg.demands = demands ∧ t.emerg.divisor = max s.emerg.divisor demands.target ∧
      (if s.emerg.divisor < demands.target then Logged [.derate demands.target] [.derate] s t ∧ t.emerg.settle = none
        else Logged [] [] s t) ∧
      (demands.target < s.emerg.divisor → s.emerg.settle = none → demands ≠ s.emerg.demands →
        t.emerg.settle = some 3000) ∧
      (demands = s.emerg.demands → t.emerg.settle = s.emerg.settle) ∧
      (∀ n, s.emerg.settle = some n → demands ≠ s.emerg.demands →
        (demands.target = s.emerg.divisor → t.emerg.settle = none) ∧
        (demands.target < s.emerg.divisor → s.emerg.demands.target < demands.target → t.emerg.settle = some 3000) ∧
        (demands.target < s.emerg.divisor → demands.target ≤ s.emerg.demands.target → t.emerg.settle = some n))

/-- CONSIST pages: page 0 waits with its TAG; page 1 of the same TAG completes the frame, of another TAG it empties the
assembly; a bad page count is CHECK_ERR. From SINGLE a completed frame in range begins JOINING with count 1; the third frame of
one identity in DARK makes the pair COUPLED, NEUTRAL (R183 to R189, R196, R199; log 29). In a COUPLED part a frame renews the
role and the facing end (R187, R190; log 21), decides a new INTENT (R14, R15), takes a REMOTE part out of REMOTE (R18) or adopts
a DARK or PARKED one (R188). -/
def Obligations.ConsistPagesJoinTwoParts : Prop :=
  ∀ (e : End) (tag : Byte) (page : List Byte) (s : State), Settled s → (s.port .kl).link = true →
    let row := Instr.consistPage e tag page
    let refreshed := { s.port .kl with silence := some 100 }
    (page.head? = some 0x02 → consistOf page [0x12, 0, 0, 0, 0, 0, 0, 0, 0, 0, 0] ≠ none →
      Gives row s fun t => Changes [.port .kl, .assembly] s t ∧ t.port .kl = refreshed ∧
        t.assembly = some (tag, page)) ∧
    (∀ head rest, page = head :: rest → head.extractLsb' 0 4 ≠ 2#4 →
      Gives row s fun t => Changes [.port .kl, .assembly, .flags, .owed, .port .vl] s t ∧ t.port .kl = refreshed ∧
        t.assembly = none ∧ Logged [] [.checkErr] s t ∧ NoticeOnly s t) ∧
    (page.head? = some 0x12 → consistOf [2, 0, 0, 0, 0, 0, 0, 0, 0, 0, 0, 0] page ≠ none →
      (∀ other first, s.assembly = some (other, first) → other ≠ tag →
        Gives row s fun t => Changes [.port .kl, .assembly] s t ∧ t.port .kl = refreshed ∧ t.assembly = none) ∧
      (∀ other first, s.assembly = some (other, first) → other = tag → ∀ f, consistOf first page = some f →
        1 ≤ f.vehicle → f.vehicle ≤ 9999 →
        100 ≤ f.length → f.length ≤ 600 → (∀ n, s.auth.record ≠ .stabled n) → ConsistSound s →
        let divisor := if f.divisor ≤ 1 then 1 else if f.divisor ≤ 4 then f.divisor else if f.divisor ≤ 6 then 6 else 8
        let taken := { f with ceiling := min f.ceiling 800, divisor := divisor, rk := max (-100) (min 100 f.rk) }
        (s.consist.state = .single →
          Gives row s fun t => Changes ([.port .kl, .assembly, .consist, .exchange] ++ reporting) s t ∧
            NoticeOnly s t ∧ t.port .kl = refreshed ∧ t.assembly = none ∧
            t.consist = ⟨.joining, none, some (f.vehicle, f.rank), 1, some taken, some 100, some e, none⟩ ∧
            Logged [.consistChanged .joining none f.vehicle] [] s t) ∧
        (s.consist.state = .joining → s.consist.identity = some (f.vehicle, f.rank) → s.consist.count = 2 →
          f.vehicle ≠ s.vl.vehicleNumber → f.rank ≠ s.vl.rank → s.auth.record = .dark →
          f.authority.state ≠ .active → f.ownSources = 0 → f.intent = none → f.answer = none →
          Gives row s fun t => Changes ([.port .kl, .assembly, .consist, .exchange] ++ reporting) s t ∧
            NoticeOnly s t ∧ t.port .kl = refreshed ∧ t.assembly = none ∧
            t.consist = ⟨.coupled, some .neutral, some (f.vehicle, f.rank), 0, some taken, some 100, some e, none⟩ ∧
            Logged [.consistChanged .coupled (some .neutral) f.vehicle] [] s t))) ∧
    (∀ f, Brings tag page f s → StaysCoupled f s →
      let resting := s.auth.record = .dark ∨ ∃ y n, s.auth.record = .parked y n
      let shows := f.authority.state
      let takes := fun effect : State → Prop => Gives row s fun t => t.port .kl = refreshed ∧ t.assembly = none ∧
        t.consist = { s.consist with
          latest := some (stored f), timer := some 100, coupledEnd := some e, facingEnd := facingOf e f
          role := match t.auth.record with
            | .active _ => some .lead
            | .remote => if shows = .active then some .trail else some .neutral
            | .dark | .claiming _ | .parked _ _ | .stabled _ => some .neutral } ∧ effect t
      (f.intent = none → (∀ i granted, s.auth.record = .claiming i → f.answer ≠ some (i.exchange, granted)) →
        (s.auth.record = .remote → takes fun t => t.auth.answered = none ∧ t.auth.record =
          (if shows = .active ∨ shows = .claiming then .remote else .dark)) ∧
        (resting → shows = .active → takes fun t => t.auth.answered = none ∧ t.auth.record = .remote ∧
          (TableSound s → DrivingEndChanged t)) ∧
        (s.auth.record ≠ .remote → (resting → shows ≠ .active) → takes fun t => t.auth.answered = none ∧
          t.auth.record = s.auth.record)) ∧
      (∀ n, f.intent = some n → shows = .claiming →
        (∀ i granted, s.auth.record = .claiming i → f.answer ≠ some (i.exchange, granted)) →
        (∀ granted, s.auth.answered = some (n, granted) → takes fun t => t.auth.answered = s.auth.answered ∧
          t.auth.record = s.auth.record) ∧
        ((∀ granted, s.auth.answered ≠ some (n, granted)) →
          ((∃ x, s.auth.record = .active x) ∨ s.speed.standstill = false → takes fun t =>
            t.auth.answered = some (n, false) ∧ t.auth.record = s.auth.record) ∧
          (s.speed.standstill = true →
            (resting → takes fun t => t.auth.answered = some (n, true) ∧ t.auth.record = .remote ∧
              (TableSound s → DrivingEndChanged t)) ∧
            (s.auth.record = .remote → takes fun t => t.auth.answered = some (n, true) ∧ t.auth.record = .remote) ∧
            (∀ i, s.auth.record = .claiming i →
              (s.vl.rank < f.rank → takes fun t => t.auth.answered = some (n, false) ∧
                t.auth.record = s.auth.record) ∧
              (f.rank < s.vl.rank → takes fun t => t.auth.answered = some (n, true) ∧ t.auth.record = .remote ∧
                (TableSound s → DrivingEndChanged t) ∧
                ClaimAnswered i.claimant (refusedBy .owner · .lostTie) s t))))))

/-- A bad frame raises its port's check flag alone; a discarded frame refreshes its link, and raises the flag where it is
malformed. A silence timer that expires makes its link LOST; a cab link takes its slot, and as the active end's it sets LINK and
parks the end (R3, R9, R196, R198). Any valid frame on a LOST link makes it UP, with LINK_CHANGED and the LINK_CHANGE flag
(R198). The order of LINK_CHANGED, EMERGENCY_APPLIED and AUTHORITY_CHANGED from three blocks in one event is log 10. -/
def Obligations.BadFramesAndSilence : Prop :=
  ∀ (p : Port) (malformed : Bool) (s : State),
    let flag : NoticeFlag := match p with | .ca => .caCheck | .cb => .cbCheck | .vl => .checkErr | .kl => .checkErr
    let silence := match p with | .ca => 200 | .cb => 200 | .vl => 500 | .kl => 100
    let lost := fun t : State => (t.port p).link = false ∧ (t.port p).silence = none ∧
      (t.port p).commands = (s.port p).commands ∧ (p ≠ .vl → NoticeOnly s t ∧ (t.port p).transmit = (s.port p).transmit)
    Happens (.badFrame p) s [.flags, .owed, .port .vl] (fun t => Logged [] [flag] s t) ∧
    (Settled s → (s.port p).link = true →
      Gives (.frameDiscarded p malformed) s fun t => (t.port p).link = true ∧ (t.port p).silence = some silence ∧
        (t.port p).commands = (s.port p).commands ∧ (p ≠ .vl → NoticeOnly s t) ∧
        (malformed = true → Changes [.port p, .flags, .owed, .port .vl] s t ∧ Logged [] [flag] s t) ∧
        (malformed = false → Changes [.port p] s t ∧ t.port p = { s.port p with silence := some silence })) ∧
    (Settled s → (s.port p).silence ≠ none →
      ((p = .vl ∨ p = .kl) → Gives (.silenceTimerExpires p) s fun t => lost t ∧ Changes (.port p :: reporting) s t ∧
        Logged [.linkChanged p false] [.linkChange] s t) ∧
      (∀ e, p = endPort e →
        (s.auth.record ≠ .active e → (∀ i, s.auth.record = .claiming i → i.claimant ≠ e) →
          Gives (.silenceTimerExpires p) s fun t => lost t ∧ Changes ([.port p, .slots] ++ reporting) s t ∧
            t.slot e = ⟨.number 0, false, false, false, false, false⟩ ∧ t.slot (otherEnd e) = s.slot (otherEnd e) ∧
            Logged [.linkChanged p false] [.linkChange] s t) ∧
        (s.auth.record = .active e → Gives (.silenceTimerExpires p) s fun t => lost t ∧
          Changes ([.port p, .slots, .record, .vigilance, .latch, .consist, .exchange, .ladder] ++ reporting ++ closing)
            s t ∧
          t.slot e = ⟨.number 0, false, false, false, false, false⟩ ∧ t.auth.record = .parked e 120000 ∧
          t.emerg.recorded = s.emerg.recorded ||| 0x0004 ∧ t.emerg.running = false) ∧
        (s.auth.record = .active e → Unpaired s → s.consist.state ≠ .conflict →
          Gives (.silenceTimerExpires p) s fun t => lost t ∧
            Changes ([.port p, .slots, .record, .vigilance, .latch] ++ reporting ++ closing) s t ∧
            t.slot e = ⟨.number 0, false, false, false, false, false⟩ ∧ t.auth.record = .parked e 120000 ∧
            t.emerg.recorded = s.emerg.recorded ||| 0x0004 ∧ t.emerg.running = false ∧
            (s.emerg.recorded = 0 →
              Logged [.linkChanged p false, .emergencyApplied .link, .authorityChanged ⟨.parked, none, some e⟩ none]
                [.linkChange, .emergency] s t)))) ∧
    (Settled s → (s.port p).link = false →
      let up := { s.port p with link := true, silence := some silence }
      let rises := fun (i : Instr) (parts : List Part) (events : List TripEvent) (flags : List NoticeFlag) =>
        Gives i s fun t => Changes ([.port p] ++ parts ++ reporting) s t ∧ (p ≠ .vl → t.port p = up ∧ NoticeOnly s t) ∧
          (t.port p).link = true ∧ (t.port p).silence = some silence ∧ (t.port p).commands = (s.port p).commands ∧
          Logged (.linkChanged p true :: events) (.linkChange :: flags) s t
      (rises (.frameDiscarded p malformed) [] [] (if malformed then [flag] else [])) ∧
      (∀ e lever deadman ack bell horn, p = endPort e →
        (s.auth.record ≠ .active e → rises (.cabState e lever deadman ack bell horn) [.slots] [] []) ∧
        Gives (.cabState e lever deadman ack bell horn) s fun t => t.port p = up ∧ Reported (.linkChanged p true) t) ∧
      (∀ (ceiling : Word16) (priorityClass quiet derate : Byte), p = .vl → LadderSound s →
        let demands := { s.emerg.demands with vehicle := if rung derate.toNat = 1 then none else some (rung derate.toNat) }
        let raised := s.emerg.divisor < demands.target
        rises (.vehicleState ceiling priorityClass quiet derate) [.held, .ladder]
          (if raised then [.derate demands.target] else []) (if raised then [.derate] else [])) ∧
      (∀ (e : End) (tag : Byte) (page : List Byte), p = .kl →
        (page.head? = some 0x02 → consistOf page [0x12, 0, 0, 0, 0, 0, 0, 0, 0, 0, 0] ≠ none →
          rises (.consistPage e tag page) [.assembly] [] []) ∧
        Gives (.consistPage e tag page) s fun t => t.port p = up ∧ t.vl.flags.getLsbD 7 = true))

/-- An entry that has been sent leaves its transmit FIFO, and the freed room goes to a held answer or an owed NOTICE. A cyclic
train due is queued with the next sequence number where there is room, else skipped; a STABLED part sends only its vehicle
report; a consist frame takes the forward list with it (R20, R155, R199, R204; log 13 for due times and sequence numbers that go
on while STABLED). What the three trains carry is what their owners hold when the frame is built (R79, R117, R137, R161, R181,
R183, R194, R209; logs 41, 43, 45 and 47 for what the report's layout leaves open). -/
def Obligations.TransmitterAndDueTimes : Prop :=
  ∀ (p : Port) (e : End) (s : State), Settled s →
    let next := fun (x : PortState) (due : Nat) => { x with sequence := x.sequence + 1, due := due }
    (∀ head rest, (s.port p).transmit = head :: rest → rest.length < 8 →
      let left := { s.port p with
        transmit := rest, wire := match rest with | x :: _ => x.wireTime | [] => 0 }
      ((s.port p).heldAnswer = none → (p = .vl → s.vl.owed = false) →
        Gives (.transmitEntryLeaves p) s fun t => Changes [.port p] s t ∧ t.port p = left) ∧
      (∀ held, (s.port p).heldAnswer = some held → (p = .vl → s.vl.owed = false) →
        Gives (.transmitEntryLeaves p) s fun t => Changes [.port p] s t ∧
          t.port p = { left with heldAnswer := none }.withEntry held) ∧
      (p = .vl → (s.port p).heldAnswer = none → s.vl.owed = true → s.vl.flags &&& s.vl.mask ≠ 0 →
        Gives (.transmitEntryLeaves p) s fun t => Changes [.port p, .owed] s t ∧ t.vl.owed = false ∧
          t.port p = left.withEntry (.notice s.vl.flags))) ∧
    ((∀ n, s.auth.record ≠ .stabled n) → (s.port (endPort e)).transmit.length < 8 →
      Happens (.cabDisplayDue e) s [.port (endPort e)] fun t =>
        t.port (endPort e) = next ((s.port (endPort e)).withEntry
          (.display (s.port (endPort e)).sequence (cabDisplay e s))) 50) ∧
    (((∃ n, s.auth.record = .stabled n) ∨ 8 ≤ (s.port (endPort e)).transmit.length) →
      Happens (.cabDisplayDue e) s [.port (endPort e)] fun t =>
        t.port (endPort e) = next (s.port (endPort e)) 50) ∧
    DisplayShows e s (cabDisplay e s) ∧ ReportShows s (vehicleReport s) ∧ FrameCarries s (consistFrame s) ∧
    (Gives .vehicleReportDue s fun t => Changes [.port .vl] s t ∧
      t.port .vl = next (if (s.port .vl).transmit.length < 8 then
        (s.port .vl).withEntry (.report (s.port .vl).sequence (vehicleReport s)) else s.port .vl) 100) ∧
    ((∀ n, s.auth.record ≠ .stabled n) → (s.port .kl).transmit.length < 8 →
      Happens .consistFrameDue s [.port .kl, .mirror] fun t =>
        t.port .kl = next ((s.port .kl).withEntry (.consist (s.port .kl).sequence (consistFrame s))) 20 ∧
        t.stop = (if s.auth.record = .remote then { s.stop with forward := Vector.replicate 8 none } else s.stop)) ∧
    (((∃ n, s.auth.record = .stabled n) ∨ 8 ≤ (s.port .kl).transmit.length) →
      Happens .consistFrameDue s [.port .kl] fun t => t.port .kl = next (s.port .kl) 20)

/-! ### The input lines -/

/-- The key lines: a key on only wakes a STABLED part, a key off parks the active end, with source KEY while moving, and ends a
claim of its end NO_KEY, a previous DARK with the driving-end change (R8, R16, R17, R21, R22, R113). Two orders are log 10:
AUTHORITY_CHANGED before EMERGENCY_APPLIED, and before WOKEN. -/
def Obligations.KeyLines : Prop :=
  ∀ (e : End) (s : State),
    (s.pins.key.get e = false →
      ((∀ n, s.auth.record = .stabled n → 6 ≤ n) →
        Happens (.keyOn e) s [.pins] fun t => t.pins = { s.pins with key := s.pins.key.set e true }) ∧
      (∀ n, s.auth.record = .stabled n → n < 6 → ConsistSound s → s.pins.passengerClosed = true →
        Happens (.keyOn e) s ([.pins, .record] ++ reporting ++ closing) fun t =>
          t.pins = { s.pins with key := s.pins.key.set e true } ∧ t.auth.record = .dark ∧
          Logged [.authorityChanged ⟨.dark, none, none⟩ none, .woken (.key e)] [] s t)) ∧
    (s.pins.key.get e = true →
      (s.auth.record ≠ .active e → (∀ i, s.auth.record = .claiming i → i.claimant ≠ e) →
        Happens (.keyOff e) s [.pins] fun t => t.pins = { s.pins with key := s.pins.key.set e false }) ∧
      (s.auth.record = .active e →
        Happens (.keyOff e) s ([.pins, .record, .vigilance, .latch, .consist, .exchange, .ladder] ++ reporting ++ closing)
          fun t => t.auth.record = .parked e 120000 ∧ t.emerg.running = false ∧
            t.emerg.recorded = s.emerg.recorded ||| (if s.speed.standstill then 0 else 0x0008)) ∧
      (s.auth.record = .active e → Unpaired s → s.consist.state ≠ .conflict →
        (s.speed.standstill = true →
          Happens (.keyOff e) s ([.pins, .record, .vigilance] ++ reporting ++ closing) fun t =>
            t.pins = { s.pins with key := s.pins.key.set e false } ∧ t.auth.record = .parked e 120000 ∧
            t.emerg.running = false ∧ Logged [.authorityChanged ⟨.parked, none, some e⟩ none] [] s t) ∧
        (s.speed.standstill = false →
          Happens (.keyOff e) s ([.pins, .record, .vigilance, .latch] ++ reporting ++ closing) fun t =>
            t.auth.record = .parked e 120000 ∧ t.emerg.recorded = s.emerg.recorded ||| 0x0008 ∧
            (s.emerg.recorded = 0 →
              Logged [.authorityChanged ⟨.parked, none, some e⟩ none, .emergencyApplied .key] [.emergency] s t))) ∧
      (∀ i, s.auth.record = .claiming i → i.claimant = e → Paired s → ConsistSound s →
        (s.port (endPort e)).transmit.length < 8 → ∀ c, (s.port (endPort e)).unanswered = some c →
        ∀ y n, i.previous = .parked y n →
        Happens (.keyOff e) s ([.pins, .record, .port (endPort e)] ++ reporting ++ closing) fun t =>
          t.auth.record = .parked y n ∧ t.port (endPort e) =
            { s.port (endPort e) with unanswered := none }.withEntry (refusedBy .owner c .noKey) ∧
          Logged [.authorityChanged ⟨.parked, none, some y⟩ none] [] s t) ∧
      (∀ i, s.auth.record = .claiming i → i.claimant = e → i.previous = .dark → Paired s → ConsistSound s →
        Happens (.keyOff e) s ([.pins, .record, .port (endPort e), .table, .queues, .pendingItems, .heldPriority] ++
          reporting ++ closing) fun t =>
            t.auth.record = .dark ∧ ClaimAnswered e (refusedBy .owner · .noKey) s t ∧
            (TableSound s → DrivingEndChanged t) ∧
            (s.junction.records = [] → s.wayside.held = none →
              Logged [.authorityChanged ⟨.dark, none, none⟩ none] [] s t)))

/-- The loops and the axle pulses: an open door loop while moving outside a stop is reported, an open passenger emergency loop
sets LOOP, either wakes a STABLED part below 3; a pulse raises the count of its channel to at most 255 (R22, R25, R69, R71, R72,
R151, R152). A door loop that closes 20 dm after the close completes the departure by itself, with the early presses and the
held priority request as at a period update (R134, R151). DOOR_OPEN_MOVING in a REMOTE part is judged by the mirrored stop state
(log 33); AUTHORITY_CHANGED before WOKEN is log 10. -/
def Obligations.LoopsAndAxlePulses : Prop :=
  ∀ (c : Axle) (s : State),
    (∀ n, s.pins.doorClosed = true → s.auth.record = .stabled n →
      (3 ≤ n → Happens .doorLoopOpens s [.pins] fun t => t.pins = { s.pins with doorClosed := false }) ∧
      (n < 3 → ConsistSound s → s.pins.passengerClosed = true →
        Happens .doorLoopOpens s ([.pins, .record] ++ reporting ++ closing) fun t =>
          t.pins = { s.pins with doorClosed := false } ∧ t.auth.record = .dark ∧
          Logged [.authorityChanged ⟨.dark, none, none⟩ none, .woken .doorLoop] [] s t)) ∧
    (s.pins.doorClosed = true → (∀ n, s.auth.record ≠ .stabled n) →
      Happens .doorLoopOpens s (.pins :: reporting) fun t =>
        t.pins = { s.pins with doorClosed := false } ∧
        Logged (if (s.shownStop.phase = .none ∨ s.shownStop.phase = .requested) ∧ s.speed.standstill = false
          then [.doorOpenMoving] else []) [] s t) ∧
    (s.pins.doorClosed = false →
      (s.stop.own.phase ≠ .departing ∨ (∀ o, s.stop.own.closeOdo = some o → (s.speed.odometer - o).toNat < 20)) →
        Happens .doorLoopCloses s [.pins] fun t => t.pins = { s.pins with doorClosed := true }) ∧
    (s.pins.doorClosed = false → (∀ n, s.auth.record ≠ .stabled n) → s.stop.own.phase = .departing →
      ∀ o, s.stop.own.closeOdo = some o → 20 ≤ (s.speed.odometer - o).toNat →
      let departs := fun (parts : List Part) (effect : State → Prop) =>
        Happens .doorLoopCloses s ([.pins, .stopState] ++ parts ++ closing) fun t =>
          t.pins = { s.pins with doorClosed := true } ∧ effect t
      (s.stop.own.earlyPress = false →
        (s.wayside.held = none → departs [] fun t =>
          t.stop.own = { s.stop.own with phase := .none, doors := 0, closeOdo := none }) ∧
        (∀ r, s.wayside.held = some r → s.wayside.sending.isSome = true → s.wayside.sp.length < 2 →
          departs ([.queues, .heldPriority] ++ reporting) fun t =>
            t.stop.own = { s.stop.own with phase := .none, doors := 0, closeOdo := none } ∧
            t.wayside = { s.wayside with held := none, sp := s.wayside.sp ++ [r] } ∧
            Logged [.priorityRequested r.crossing r.cls] [] s t)) ∧
      (s.stop.own.earlyPress = true → s.wayside.held = none → s.stop.own.earlyAssist = false →
        ∀ d : Nat, s.stop.own.earlyDoors.getLsbD d = true → (∀ k, k < d → s.stop.own.earlyDoors.getLsbD k = false) →
        departs reporting fun t =>
          t.stop.own = { s.stop.own with
            phase := .requested, doors := s.stop.own.earlyDoors, closeOdo := none, earlyPress := false, earlyDoors := 0 } ∧
          (s.auth.record ≠ .remote → t.outputs.sign = true) ∧ Logged [.stopRequested d .standard] [] s t)) ∧
    (s.pins.passengerClosed = true →
      ((∀ n, s.auth.record ≠ .stabled n) →
        Happens .passengerLoopOpens s ([.pins, .latch] ++ reporting ++ closing) fun t =>
          t.pins = { s.pins with passengerClosed := false } ∧ t.emerg.recorded = s.emerg.recorded ||| 0x0010 ∧
          t.outputs.brakeLine = false ∧
          (s.emerg.recorded = 0 → t.emerg.first = some .loop ∧ Logged [.emergencyApplied .loop] [.emergency] s t)) ∧
      (∀ n, s.auth.record = .stabled n →
        (3 ≤ n → Happens .passengerLoopOpens s [.pins] fun t =>
          t.pins = { s.pins with passengerClosed := false }) ∧
        (n < 3 → ConsistSound s →
          Happens .passengerLoopOpens s ([.pins, .record, .latch] ++ reporting ++ closing) fun t =>
            t.auth.record = .dark ∧ t.emerg.recorded = s.emerg.recorded ||| 0x0010))) ∧
    (Happens .passengerLoopCloses s [.pins] fun t => t.pins = { s.pins with passengerClosed := true }) ∧
    Happens (.axlePulse c) s [.speed] fun t =>
      t.speed = { s.speed with
        axles := axleSet s.speed.axles c
          { axleGet s.speed.axles c with count := min 255 ((axleGet s.speed.axles c).count + 1) } }

/-! ### The demand period -/

/-- PERIOD_UPDATE in every state: the counts join their windows, the speeds, the reference, v_ref, standstill and the odometer
follow, the brake line is armed and the timer restarts at 20 ms; configuration, slots, plan and held values stay (R25 to R27,
R34 to R38, R43, R90; log 12 for the order of units). The reference channel is chosen by the sign of O_prev (R34, R35); a band
crossing its edge selects raises its flag, is reported, and sounds at the active end (R39, R40). -/
def Obligations.PeriodUpdateReadsTheAxles : Prop :=
  ∀ (closed : PerAxle Bool) (s : State),
    Gives (.periodUpdate closed) s fun t =>
      t.clock = { s.clock with period := 20, choices := t.clock.choices } ∧
      t.pins = { s.pins with axleLines := closed } ∧ t.emerg.armed = true ∧
      (∀ p ∈ [Part.slots, .commandHold, .vigilanceSetting, .plan, .enquiry, .levels, .acked, .lines, .pulses, .patterns,
        .forcedOff, .assembly, .held, .identity, .mask, .pending], p.same s t) ∧
      (∀ c : Axle, let x := axleGet s.speed.axles c
        let y := axleGet t.speed.axles c
        y.count = 0 ∧ y.closed = axleGet closed c ∧
        y.window = (if x.window.length < 5 then x.window else x.window.drop 1) ++ [x.count] ∧
        y.speed = min 1000 (min 1023 y.window.sum * s.speed.pulseLength * 36 / 10000)) ∧
      (∀ c : Axle, t.speed.reference = some c →
        (∃ z o, (axleGet t.speed.axles c).health = .healthy z o) ∧
        t.speed.vRef = (axleGet t.speed.axles c).speed ∧
        (let travel := s.speed.remainder + (axleGet s.speed.axles c).count * s.speed.pulseLength
         t.speed.odometer = s.speed.odometer + BitVec.ofNat 24 (travel / 10000) ∧ t.speed.remainder = travel % 10000) ∧
        (t.speed.vRef < 5 → t.speed.lowRun = min 25 (s.speed.lowRun + 1) ∧
          (t.speed.standstill = true ↔ 25 ≤ s.speed.lowRun + 1)) ∧
        (5 ≤ t.speed.vRef → t.speed.lowRun = 0 ∧ t.speed.standstill = false)) ∧
      (t.speed.reference = none →
        (∀ c : Axle, ∃ cause r, (axleGet t.speed.axles c).health = .faulted cause r) ∧ t.speed.vRef = s.speed.vRef ∧
        t.speed.odometer = s.speed.odometer ∧ t.speed.remainder = s.speed.remainder ∧ t.speed.lowRun = 0 ∧
        t.speed.standstill = false) ∧
      ((∃ z o, t.speed.axles.t1.health = .healthy z o) → (∃ z o, t.speed.axles.t2.health = .healthy z o) →
        0 ≤ s.shaper.prev → t.speed.reference =
          if t.speed.axles.t2.speed ≤ t.speed.axles.t1.speed then some .t1 else some .t2) ∧
      (let healthy := fun c : Axle => ∃ z o, (axleGet t.speed.axles c).health = .healthy z o
       let v := fun c : Axle => (axleGet t.speed.axles c).speed
       let centre := fun c : Axle => c = .t1 ∨ c = .t2
       let before := fun c o : Axle => axleCode c ≤ axleCode o
       ∀ c : Axle, t.speed.reference = some c →
        (s.shaper.prev < 0 → ∀ o, healthy o → v o < v c ∨ (v o = v c ∧ before c o)) ∧
        (0 ≤ s.shaper.prev → (∃ x, centre x ∧ healthy x) →
          centre c ∧ ∀ o, centre o → healthy o → v o < v c ∨ (v o = v c ∧ before c o)) ∧
        (0 ≤ s.shaper.prev → (∀ x, centre x → ¬ healthy x) →
          ∀ o, healthy o → v c < v o ∨ (v o = v c ∧ before c o))) ∧
      (∀ i : Fin 4, let m := s.speed.monitors[i]
        let above := decide ((if m.above then m.threshold else m.threshold + 5) ≤ t.speed.vRef)
        t.speed.monitors[i] = { m with above := above } ∧
        (above ≠ m.above → (m.edge = .both ∨ (m.edge = .rising ∧ above = true) ∨ (m.edge = .falling ∧ above = false)) →
          t.vl.flags.getLsbD (11 + i.val) = true ∧
          (t.vl.events.length < 32 → Reported (.speedBand i above t.speed.vRef) t) ∧
          (∀ e pattern, s.auth.record = .active e → m.pattern = some pattern → SoundsSound s →
            (s.sound.channels.get (endBuzzer e)).playing = none →
            (t.sound.channels.get (endBuzzer e)).holds .speedBand = true)))

/-- A zero or open run that reaches 20 faults its channel, a recovery run that reaches 250 heals it, where the test of the run is
met: the event, the SENSOR and REFERENCE demands for the channels still healthy, and SPEED once none is. Otherwise the row changes
nothing; with both runs at their end the cause is OPEN, and the zero test never faults the last healthy channel nor sets SPEED
(R28 to R33; logs 3 and 11). -/
def Obligations.ChannelHealthRows : Prop :=
  ∀ (c : Axle) (s : State), LadderSound s →
    let before := axleGet s.speed.axles c
    let channel := axleGet s.speed.axles
    let near := fun x y : Nat => x ≤ y + 20 ∧ y ≤ x + 20
    let zeroTest := before.speed = 0 ∧ ∃ o ∈ healthyAxles s.speed.axles, o ≠ c ∧ 50 ≤ (channel o).speed
    let recovers := before.closed = true ∧
      ((healthyAxles s.speed.axles ≠ [] ∧ near before.speed s.speed.vRef) ∨
        (healthyAxles s.speed.axles = [] ∧ ∃ o, o ≠ c ∧ (channel o).closed = true ∧ near (channel o).speed before.speed))
    let still := fun i : Instr => Happens i s [] fun _ => True
    let moves := fun (i : Instr) (parts : List Part) (h : Health) (event : TripEvent) =>
      Happens i s (parts ++ [.speed, .ladder] ++ reporting ++ closing) fun t =>
        t.speed = { s.speed with axles := axleSet s.speed.axles c { before with health := h } } ∧
        (let n := (healthyAxles t.speed.axles).length
         t.emerg.demands = { s.emerg.demands with
           sensor := if n = 4 then none else if n = 3 then some 2 else some 4
           reference := if n ≤ 2 ∧ Axle.t1 ∉ healthyAxles t.speed.axles ∧ Axle.t2 ∉ healthyAxles t.speed.axles
             then some 8 else none } ∧
         t.emerg.divisor = max s.emerg.divisor t.emerg.demands.target ∧
         (n = 0 → t.emerg.recorded.getLsbD 6 = true) ∧ (n ≠ 0 → t.emerg.recorded = s.emerg.recorded) ∧
         (n ≠ 0 → if s.emerg.divisor < t.emerg.demands.target
           then Logged [event, .derate t.emerg.demands.target] [.derate] s t else Logged [event] [] s t))
    (∀ z o, before.health = .healthy z o →
      let opens := before.closed = false ∧ 19 ≤ o
      (zeroTest → 19 ≤ z → ¬ opens → moves (.zeroRunFault c) [] (.faulted .zero 0) (.channelFaulted c .zero)) ∧
      (¬ zeroTest ∨ z < 19 ∨ opens → still (.zeroRunFault c)) ∧
      (opens → moves (.openRunFault c) [.latch] (.faulted .open 0) (.channelFaulted c .open)) ∧
      (¬ opens → still (.openRunFault c)) ∧ still (.recoveryRunComplete c)) ∧
    (∀ cause r, before.health = .faulted cause r →
      (recovers → 249 ≤ r → moves (.recoveryRunComplete c) [] (.healthy 0 0) (.channelHealthy c)) ∧
      (¬ recovers ∨ r < 249 → still (.recoveryRunComplete c)) ∧ still (.zeroRunFault c) ∧ still (.openRunFault c)) ∧
    (∀ t : State, exec (.zeroRunFault c) s = .next t → healthyAxles s.speed.axles ≠ [] →
      healthyAxles t.speed.axles ≠ [] ∧ t.emerg.recorded = s.emerg.recorded)

/-- The counts of the period update that reach their ends: standstill after 25 low periods, RECOVER after 5 calm ones where the
difference is calm, GRIP with the cap at 100 where there is no detection, a slip history entry of age 250, the dwell (R36, R54,
R60, R62, R63, R64; log 3). A STABLED part keeps its calm run, adhesion state, cap and dwell (R66). -/
def Obligations.PeriodCountRows : Prop :=
  ∀ s : State,
    let awake := ∀ n, s.auth.record ≠ .stabled n
    let prev : Int := if s.shaper.released = true ∧ s.emerg.recorded = 0 then -100 else s.shaper.prev
    let healthy := fun c : Axle => c ∈ healthyAxles s.speed.axles
    let motored := fun c : Axle => c = .m1 ∨ c = .m2
    let v := fun c : Axle => (axleGet s.speed.axles c).speed
    let detected := (0 < prev ∧ ∃ c, motored c ∧ healthy c ∧ s.speed.vRef + 15 < v c) ∨
      (prev < 0 ∧ ∃ c, healthy c ∧ v c + 15 < s.speed.vRef)
    let calm := (0 < prev → ∀ c, motored c → healthy c → v c < s.speed.vRef + 5) ∧
      (prev < 0 → ∀ c, healthy c → s.speed.vRef < v c + 5)
    (s.speed.reference ≠ none → s.speed.vRef < 5 → 24 ≤ s.speed.lowRun →
      Happens .standstillBegins s [.speed] fun t =>
        t.speed = { s.speed with lowRun := 25, standstill := true }) ∧
    ((∃ n, s.auth.record = .stabled n) → ∀ i ∈ [Instr.calmRunComplete, .adhesionBackToGrip, .dwellRunsDown],
      Happens i s [] fun _ => True) ∧
    (¬ calm → Happens .calmRunComplete s [] fun _ => True) ∧ (detected → Happens .adhesionBackToGrip s [] fun _ => True) ∧
    (awake → s.shaper.adhesion = .slip → calm → 4 ≤ s.shaper.calm →
      Happens .calmRunComplete s [.shaper] fun t =>
        t.shaper = { s.shaper with calm := 5, adhesion := .recover }) ∧
    (awake → s.shaper.adhesion = .recover → ¬ detected → 98 ≤ s.shaper.cap →
      Happens .adhesionBackToGrip s [.shaper] fun t =>
        t.shaper = { s.shaper with cap := 100, adhesion := .grip }) ∧
    ((∃ age ∈ s.shaper.history, 249 ≤ age) → LadderSound s →
      let left := s.shaper.history.filter fun age => decide (age < 249)
      (left.length < 3 ∨ s.emerg.demands.adhesion ≠ none) →
        Happens .slipHistoryEntryExpires s [.shaper, .ladder] fun t =>
          t.shaper = { s.shaper with history := left } ∧ t.emerg.divisor = s.emerg.divisor ∧
          t.emerg.demands = (if left.length < 3 then { s.emerg.demands with adhesion := none } else s.emerg.demands)) ∧
    (awake → s.shaper.dwell = 1 →
      Happens .dwellRunsDown s [.shaper] fun t => t.shaper = { s.shaper with dwell := 0, dwellSign := none })

/-! ### Timers -/

/-- The park timer darkens the vehicle with a driving-end change, or while CLAIMING turns the remembered state to DARK; the
intent timer ends a claim NO_PARTNER and gives the record back (R10, R13, R16, R17, R113). -/
def Obligations.RecordTimers : Prop :=
  ∀ (e : End) (n : Nat) (s : State),
    (s.auth.record = .parked e n →
      Happens .parkTimerExpires s ([.record, .table, .queues, .pendingItems, .heldPriority, .consist, .exchange, .ladder] ++
        reporting ++ closing) fun t =>
          t.auth.record = .dark ∧ t.junction.overflow = none ∧ t.junction.tableFull = false ∧
          t.junction.pendingLeg = none ∧ t.junction.pendingPermit = false ∧ t.wayside.held = none ∧
          (TableSound s → junctionsOf t.junction.records =
            junctionsOf (s.junction.records.filter fun x => decide (x.state = .onPoint)))) ∧
    (s.auth.record = .parked e n → Unpaired s → s.consist.state ≠ .conflict → NoneOnPoint s →
      Happens .parkTimerExpires s
        ([.record, .table, .queues, .pendingItems, .heldPriority] ++ reporting ++ closing) fun t =>
          t.auth.record = .dark ∧ t.junction.records = [] ∧ t.junction.overflow = none ∧
          t.junction.tableFull = false ∧ t.junction.pendingLeg = none ∧ t.junction.pendingPermit = false ∧
          t.wayside.held = none ∧
          (s.junction.records = [] → s.wayside.held = none →
            Logged [.authorityChanged ⟨.dark, none, none⟩ none] [] s t)) ∧
    (∀ i, s.auth.record = .claiming i →
      (i.previous = .parked e n → s.junction.records = [] → s.wayside.held = none →
        Happens .parkTimerExpires s
          ([.record, .table, .queues, .pendingItems, .heldPriority] ++ reporting ++ closing) fun t =>
            t.auth.record = .claiming { i with previous := .dark } ∧ t.junction.overflow = none ∧
            t.junction.pendingLeg = none ∧ t.junction.pendingPermit = false ∧ Logged [] [] s t) ∧
      (i.previous = .parked e n → Paired s → ConsistSound s → (s.port (endPort i.claimant)).transmit.length < 8 →
        ∀ c, (s.port (endPort i.claimant)).unanswered = some c →
        Happens .intentTimerExpires s ([.record, .port (endPort i.claimant)] ++ reporting ++ closing) fun t =>
          t.auth.record = .parked e n ∧ t.port (endPort i.claimant) =
            { s.port (endPort i.claimant) with unanswered := none }.withEntry (refusedBy .owner c .noPartner) ∧
          Logged [.authorityChanged ⟨.parked, none, some e⟩ none] [] s t))

/-- The settle timer takes the divisor one rung down toward the target; the time timer warns with cause TIME; the grace and the
warning timer enter PENALTY, with source VIGILANCE where the action is BRAKE (R82, R83, R86 to R88). -/
def Obligations.LadderAndVigilanceTimers : Prop :=
  ∀ s : State,
    (LadderSound s → s.emerg.settle ≠ none → s.emerg.demands.target < s.emerg.divisor →
      let lower := match s.emerg.divisor with
        | 8 => 6 | 6 => 4 | 4 => 3 | 3 => 2 | _ => 1
      Happens .settleTimerExpires s (.ladder :: reporting) fun t =>
        t.emerg.divisor = lower ∧ t.emerg.demands = s.emerg.demands ∧
        t.emerg.settle = (if s.emerg.demands.target < lower then some 3000 else none) ∧
        Logged [.derate lower] [.derate] s t) ∧
    (s.emerg.running = true →
      (∀ e n, s.auth.record = .active e → (s.slot e).deadman = true → s.emerg.vigil = .quiet n →
        Happens .timeTimerExpires s (.vigilance :: closing) fun t =>
          t.emerg.vigil = .warningTime 3000 ∧ t.emerg.running = true ∧ t.emerg.warnedAt = some e ∧
          ((s.sound.channels.get (endBuzzer e)).playing = none →
            ∃ x, (t.sound.channels.get (endBuzzer e)).playing = some x ∧ x.source = .vigilanceWarn ∧ x.pattern = 5 ∧
              x.step = 1 ∧ x.held = true)) ∧
      (∀ i n, ((i = .graceTimerExpires ∧ s.emerg.vigil = .warningHold n) ∨
          (i = .warningTimerExpires ∧ s.emerg.vigil = .warningTime n)) →
        (s.emerg.action = .warnOnly →
          Happens i s (.vigilance :: reporting) fun t => t.emerg.vigil = .penalty ∧ t.emerg.running = true ∧
            t.emerg.warnedAt = s.emerg.warnedAt ∧ Logged [.vigilancePenalty .warnOnly] [] s t) ∧
        (s.emerg.action = .brake →
          Happens i s ([.vigilance, .latch] ++ reporting ++ closing) fun t => t.emerg.vigil = .penalty ∧
            t.emerg.warnedAt = none ∧ t.emerg.recorded = s.emerg.recorded ||| 0x0002 ∧
            (s.emerg.recorded = 0 →
              Logged [.vigilancePenalty .brake, .emergencyApplied .vigilance] [.emergency] s t))))

/-- A REQUESTED record whose report timer expires becomes NO_REPORT; a re-request timer starts again at 1 s and offers the
record's request, or a status query for a SET one; the hold timer frees the enquiry slot (R102, R103, R116, R124, R125). -/
def Obligations.JunctionTimers : Prop :=
  ∀ (j : Nat) (x : JunctionRecord) (s : State),
    let becomes := fun (y : JunctionRecord) => s.junction.records.map fun z => if z.junction = j then y else z
    (s.record j = some x → TableSound s →
      (x.state = .requested → x.reportTimer ≠ none →
        Happens (.reportTimerExpires j) s ([.table] ++ reporting ++ closing) fun t =>
          t.junction.records = becomes { x with state := .noReport, reportTimer := none } ∧
          t.junction.overflow = s.junction.overflow ∧ Logged [.junctionNoReport j] [] s t) ∧
      (x.reTimer ≠ none → s.wayside.sending.isSome = true → (∀ n, s.auth.record ≠ .stabled n) →
        Happens (.reRequestTimerExpires j) s ([.table, .queues] ++ closing) fun t =>
          t.junction.records = becomes { x with reTimer := some 1000 } ∧
          (x.state = .set → t.wayside = { s.wayside with
            jq := if j ∈ s.wayside.jq ∨ 2 ≤ s.wayside.jq.length then s.wayside.jq else s.wayside.jq ++ [j] }) ∧
          (∀ leg, x.state ≠ .set → x.leg = some leg →
            t.wayside = { s.wayside with jr := joined (.request j leg) s.wayside.jr }))) ∧
    Happens .holdTimerExpires s [.enquiry] fun t => t.junction.enquiry = .free

/-- The distance rows: a record that has run out enters its point, with PERMIT_USED, or with POINT and JUNCTION_OVERRUN where it
is neither LOCKED nor permitted; so does the overflow junction; a record that has run its clearing distance is passed and freed;
the departure completes after 20 dm with the door loop closed (R104, R106 to R109, R134, R151; log 20 for the state an overrun
of the overflow junction names). The entry for the junction leaves JR (R124, R132; log 32); EMERGENCY_APPLIED before
JUNCTION_OVERRUN is log 10. A record passes while STABLED as well (R108), and the overflow junction takes its place with its leg
requested or UNPLANNED (R98, R109). -/
def Obligations.DistanceRows : Prop :=
  ∀ (j : Nat) (x : JunctionRecord) (s : State),
    let awake := ∀ n, s.auth.record ≠ .stabled n
    let run := fun o : Count24 => (s.speed.odometer - o).toNat
    let entered := s.junction.records.map fun y => if y.junction = j then { x with
      state := .onPoint, entry := some s.speed.odometer, permit := false, reportTimer := none, reTimer := none } else y
    let code : Byte := match x.state with
      | .requested => 0 | .set => 1 | .locked => 2 | .mismatch => 3 | .noReport => 4 | .unplanned => 5 | .onPoint => 6
    let unasked := fun t : State => t.junction.records = entered ∧ t.junction.overflow = s.junction.overflow ∧
      t.wayside = { s.wayside with
        jq := s.wayside.jq.filter (fun k => decide (k ≠ j))
        jr := s.wayside.jr.filter fun y => decide (y.junction ≠ j) }
    (awake → s.record j = some x → TableSound s → x.state ≠ .onPoint → runsOut s x ≤ 0 →
      (x.state = .locked →
        Happens (.pointReachedByDistance j) s ([.table, .queues] ++ closing) unasked) ∧
      (x.state ≠ .locked → x.permit = true →
        Happens (.pointReachedByDistance j) s ([.table, .queues] ++ reporting ++ closing) fun t =>
          unasked t ∧ Logged [.permitUsed j] [] s t) ∧
      (x.state ≠ .locked → x.permit = false →
        Happens (.pointReachedByDistance j) s ([.table, .queues, .latch] ++ reporting ++ closing) fun t =>
          unasked t ∧ t.emerg.recorded = s.emerg.recorded ||| 0x0020 ∧
          (s.emerg.recorded = 0 → Logged [.emergencyApplied .point, .junctionOverrun j code] [.emergency] s t))) ∧
    (awake → ∀ c, s.junction.overflow = some c → (10 * c.distance : Int) - run c.marker ≤ 0 →
      Happens .overflowReachedByDistance s ([.table, .latch, .choices] ++ reporting ++ closing) fun t =>
        t.junction.records = s.junction.records ∧ t.junction.overflow = none ∧
        t.junction.tableFull = s.junction.tableFull ∧
        (c.permit = true → Logged [.permitUsed c.junction] [] s t ∧ t.emerg.recorded = s.emerg.recorded) ∧
        (c.permit = false → t.emerg.recorded = s.emerg.recorded ||| 0x0020 ∧
          (s.emerg.recorded = 0 → ∃ st : Byte, st.toNat < 7 ∧
            Logged [.emergencyApplied .point, .junctionOverrun c.junction st] [.emergency] s t))) ∧
    (s.record j = some x → TableSound s → x.state = .onPoint → ∀ o, x.entry = some o →
      10 * x.length + (match s.consist.state, s.consist.latest with
        | .coupled, some f => s.vl.length + f.length
        | _, _ => s.vl.length) ≤ run o →
      let others := s.junction.records.filter fun y => decide (y.junction ≠ j)
      (s.junction.overflow = none →
        Happens (.junctionPassed j) s ([.table] ++ reporting ++ closing) fun t =>
          t.junction.records = others ∧ t.junction.overflow = none ∧ t.junction.tableFull = false ∧
          Logged [.junctionPassed j x.leg] [] s t) ∧
      (∀ c, s.junction.overflow = some c → c.leg = none →
        Happens (.junctionPassed j) s ([.table] ++ reporting ++ closing) fun t =>
          t.junction.records = others ++ [⟨c.junction, none, c.ceiling, c.distance, c.length, c.marker, none,
            .unplanned, none, c.permit, false, none, none⟩] ∧
          t.junction.overflow = none ∧ t.junction.tableFull = false ∧
          Logged [.junctionPassed j x.leg, .junctionUnplanned c.junction] [] s t) ∧
      (∀ c leg, awake → s.junction.overflow = some c → c.leg = some leg → s.wayside.sending.isSome = true →
        Happens (.junctionPassed j) s ([.table, .queues] ++ reporting ++ closing) fun t =>
          t.junction.records = others ++ [⟨c.junction, some leg, c.ceiling, c.distance, c.length, c.marker, none,
            .requested, none, c.permit, false, some 2000, some 1000⟩] ∧
          t.junction.overflow = none ∧ t.junction.tableFull = false ∧
          t.wayside = { s.wayside with jr := joined (.request c.junction leg) s.wayside.jr } ∧
          Logged [.junctionPassed j x.leg, .junctionRequested c.junction (some leg)] [] s t)) ∧
    (awake → s.stop.own.phase = .departing → s.pins.doorClosed = true → ∀ o, s.stop.own.closeOdo = some o → 20 ≤ run o →
      (s.wayside.held = none → s.stop.own.earlyPress = false →
        Happens .departureCompletes s (.stopState :: closing) fun t =>
          t.stop.own = { s.stop.own with phase := .none, doors := 0, closeOdo := none }) ∧
      (s.wayside.held = none → s.stop.own.earlyPress = true → s.stop.own.earlyAssist = false →
        ∀ d : Nat, s.stop.own.earlyDoors.getLsbD d = true → (∀ k, k < d → s.stop.own.earlyDoors.getLsbD k = false) →
        Happens .departureCompletes s (.stopState :: (reporting ++ closing)) fun t =>
          t.stop.own = { s.stop.own with
            phase := .requested, doors := s.stop.own.earlyDoors, closeOdo := none, earlyPress := false, earlyDoors := 0 } ∧
          Logged [.stopRequested d .standard] [] s t) ∧
      (∀ r, s.wayside.held = some r → s.stop.own.earlyPress = false → s.wayside.sending.isSome = true →
        s.wayside.sp.length < 2 →
        Happens .departureCompletes s ([.stopState, .queues, .heldPriority] ++ reporting ++ closing) fun t =>
          t.stop.own = { s.stop.own with phase := .none, doors := 0, closeOdo := none } ∧
          t.wayside = { s.wayside with held := none, sp := s.wayside.sp ++ [r] } ∧
          Logged [.priorityRequested r.crossing r.cls] [] s t))

/-! ### The wayside channel -/

/-- Markers in the states that act on them: a REQUEST marker makes a record from one of the first three plan entries, those
before it skipped, or an UNPLANNED one; with a full table it fills the overflow slot, or is dropped TABLE_FULL; for a record
that waits it repeats the request; a pending manual leg serves where the plan has no match, and an idle radio sends at once
(R128, R131). An ENTRY marker brings a record or the overflow junction onto its point or is unmatched, a SIGNAL marker offers or
holds a priority request, REPLACED where one is held. Elsewhere they do nothing; a bad number or a failed check raises
WAYSIDE_CHECK (R93 to R98, R106, R107, R119, R120, R126, R133, R134; log 10 for PRIORITY_DROPPED before PRIORITY_HELD and POINT
before the overrun, log 20 for the state an overrun of the overflow junction names, log 32 for the entry that leaves JR). -/
def Obligations.MarkersActOrAreIgnored : Prop :=
  ∀ (j : Nat) (near : Bool) (i : Instr) (s : State), i = .requestMarker j ∨ i = .entryMarker j ∨ i = .signalMarker j near →
    let acting := (∃ e, s.auth.record = .active e) ∨ (∃ e n, s.auth.record = .parked e n) ∨ ∃ x, s.auth.record = .claiming x
    let inRange := 1 ≤ j ∧ j ≤ 4095
    let idle := s.wayside.sending = none ∧ s.wayside.jr = [] ∧ s.wayside.jq = [] ∧ s.wayside.sp = [] ∧ s.wayside.vx = []
    let asks := fun leg => { s.wayside with
      sending := some ⟨.pointRequest j s.vl.vehicleNumber leg, .jr, 12⟩, parked := .jr
      ptr0 := if s.wayside.levels.jr then .jr else .jq, ptr1 := if s.wayside.levels.jr then .jq else s.wayside.ptr1 }
    let gives := fun (contents : JunctionContents) (skipped rest : List PlanEntry) =>
      (∃ entry, s.junction.plan = skipped ++ entry :: rest ∧ skipped.length ≤ 2 ∧ (∀ e ∈ skipped, e.junction ≠ j) ∧
        entry.junction = j ∧ contents = (⟨j, some (s.junction.pendingLeg.getD entry.leg), entry.ceiling,
          entry.distance, entry.length, s.speed.odometer, s.junction.pendingPermit⟩ : JunctionContents)) ∨
      ((∀ entry ∈ s.junction.plan.take 3, entry.junction ≠ j) ∧ skipped = [] ∧ rest = s.junction.plan ∧
        contents = ⟨j, s.junction.pendingLeg, 100, 30, 60, s.speed.odometer, s.junction.pendingPermit⟩)
    ((∃ n, s.auth.record = .stabled n) → Happens i s [] (fun _ => True) ∧
      Happens .markerCheckFailed s [] fun _ => True) ∧
    ((∀ n, s.auth.record ≠ .stabled n) →
      (¬ inRange → Happens i s [.flags, .owed, .port .vl] fun t => Logged [] [.waysideCheck] s t) ∧
      (Happens .markerCheckFailed s [.flags, .owed, .port .vl] fun t => Logged [] [.waysideCheck] s t) ∧
      (inRange → ¬ acting → Happens i s [] fun _ => True)) ∧
    (acting → inRange →
      (s.record j = none → (∀ c, s.junction.overflow = some c → c.junction ≠ j) →
        (s.junction.records.length < 4 → s.wayside.sending.isSome = true →
          (∀ skipped entry rest leg, s.junction.plan = skipped ++ entry :: rest → skipped.length ≤ 2 →
            (∀ e ∈ skipped, e.junction ≠ j) → entry.junction = j → leg = s.junction.pendingLeg.getD entry.leg →
            Happens (.requestMarker j) s ([.plan, .table, .pendingItems, .queues] ++ reporting ++ closing) fun t =>
              t.junction.plan = rest ∧ t.junction.pendingLeg = none ∧ t.junction.pendingPermit = false ∧
              t.junction.records = s.junction.records ++ [⟨j, some leg, entry.ceiling, entry.distance, entry.length,
                s.speed.odometer, none, .requested, none, s.junction.pendingPermit, false, some 2000, some 1000⟩] ∧
              t.wayside = { s.wayside with jr := joined (.request j leg) s.wayside.jr } ∧
              Logged (skipped.map (fun e => .junctionSkipped e.junction) ++ [.junctionRequested j (some leg)]) [] s t) ∧
          (∀ leg, (∀ entry ∈ s.junction.plan.take 3, entry.junction ≠ j) → s.junction.pendingLeg = some leg →
            Happens (.requestMarker j) s ([.table, .pendingItems, .queues] ++ reporting ++ closing) fun t =>
              t.junction.pendingLeg = none ∧ t.junction.pendingPermit = false ∧
              t.junction.records = s.junction.records ++ [⟨j, some leg, 100, 30, 60, s.speed.odometer, none, .requested,
                none, s.junction.pendingPermit, false, some 2000, some 1000⟩] ∧
              t.wayside = { s.wayside with jr := joined (.request j leg) s.wayside.jr } ∧
              Logged [.junctionRequested j (some leg)] [] s t) ∧
          ((∀ entry ∈ s.junction.plan.take 3, entry.junction ≠ j) → s.junction.pendingLeg = none →
            Happens (.requestMarker j) s ([.table, .pendingItems] ++ reporting ++ closing) fun t =>
              t.junction.records = s.junction.records ++ [⟨j, none, 100, 30, 60, s.speed.odometer, none, .unplanned,
                none, s.junction.pendingPermit, false, none, none⟩] ∧
              t.junction.pendingPermit = false ∧ Logged [.junctionUnplanned j] [] s t)) ∧
        (s.junction.records.length < 4 → idle →
          ∀ contents skipped rest leg, gives contents skipped rest → contents.leg = some leg →
            Happens (.requestMarker j) s ([.plan, .table, .pendingItems, .queues] ++ reporting ++ closing) fun t =>
              t.junction.plan = rest ∧ t.junction.pendingLeg = none ∧ t.junction.pendingPermit = false ∧
              t.junction.records = s.junction.records ++ [⟨j, some leg, contents.ceiling, contents.distance,
                contents.length, s.speed.odometer, none, .requested, none, contents.permit, true, some 2000, some 1000⟩] ∧
              t.wayside = asks leg ∧
              Logged (skipped.map (fun e => .junctionSkipped e.junction) ++ [.junctionRequested j (some leg)]) [] s t) ∧
        (4 ≤ s.junction.records.length →
          (∀ contents skipped rest, gives contents skipped rest →
            let passed := skipped.map fun e => TripEvent.junctionSkipped e.junction
            Happens (.requestMarker j) s ([.plan, .table, .pendingItems] ++ reporting ++ closing) fun t =>
              t.junction.plan = rest ∧ t.junction.pendingLeg = none ∧ t.junction.pendingPermit = false ∧
              t.junction.records = s.junction.records ∧
              (s.junction.overflow = none → t.junction.overflow = some contents ∧
                t.junction.tableFull = s.junction.tableFull ∧ Logged passed [] s t) ∧
              (s.junction.overflow ≠ none → t.junction.overflow = s.junction.overflow ∧ t.junction.tableFull = true ∧
                Logged (passed ++ [.tableFull j]) [] s t))) ∧
        Happens (.entryMarker j) s reporting fun t => Logged [.entryUnmatched j] [] s t) ∧
      (∀ c, s.record j = none → s.junction.overflow = some c → c.junction = j →
        Happens (.requestMarker j) s [] (fun _ => True) ∧
        Happens (.entryMarker j) s ([.table, .latch, .choices] ++ reporting ++ closing) fun t =>
          t.junction.records = s.junction.records ∧ t.junction.overflow = none ∧
          t.junction.tableFull = s.junction.tableFull ∧
          (c.permit = true → Logged [.permitUsed j] [] s t ∧ t.emerg.recorded = s.emerg.recorded) ∧
          (c.permit = false → t.emerg.recorded = s.emerg.recorded ||| 0x0020 ∧
            (s.emerg.recorded = 0 → ∃ st : Byte, st.toNat < 7 ∧
              Logged [.emergencyApplied .point, .junctionOverrun j st] [.emergency] s t))) ∧
      (∀ x, s.record j = some x →
        (x.state = .locked ∨ x.state = .onPoint ∨ x.state = .unplanned →
          Happens (.requestMarker j) s [] fun _ => True) ∧
        (∀ leg, TableSound s → x.leg = some leg →
          (x.state = .requested ∨ x.state = .set ∨ x.state = .mismatch ∨ x.state = .noReport) →
          let repeats := fun (sent : Bool) (way : Wayside) =>
            Happens (.requestMarker j) s ([.table, .queues] ++ closing) fun t =>
              t.junction.records = (s.junction.records.map fun y =>
                if y.junction = j then { x with reTimer := some 1000, sent := sent } else y) ∧
              t.junction.overflow = s.junction.overflow ∧ t.junction.tableFull = s.junction.tableFull ∧ t.wayside = way
          (s.wayside.sending.isSome = true →
            repeats x.sent { s.wayside with jr := joined (.request j leg) s.wayside.jr }) ∧
          (idle → repeats true (asks leg))) ∧
        (x.state = .onPoint → Happens (.entryMarker j) s [] fun _ => True) ∧
        (TableSound s → x.state ≠ .onPoint →
          let entered := fun t : State =>
            t.junction.records = (s.junction.records.map fun y => if y.junction = j then { x with
              state := .onPoint, entry := some s.speed.odometer, permit := false, reportTimer := none,
              reTimer := none } else y) ∧
            t.junction.overflow = s.junction.overflow ∧ t.junction.tableFull = s.junction.tableFull ∧
            t.wayside = { s.wayside with
              jq := s.wayside.jq.filter (fun k => decide (k ≠ j))
              jr := s.wayside.jr.filter fun y => decide (y.junction ≠ j) }
          let code : Byte := match x.state with
            | .requested => 0 | .set => 1 | .locked => 2 | .mismatch => 3 | .noReport => 4 | .unplanned => 5 | .onPoint => 6
          (x.state = .locked → Happens (.entryMarker j) s ([.table, .queues] ++ closing) entered) ∧
          (x.state ≠ .locked → x.permit = true →
            Happens (.entryMarker j) s ([.table, .queues] ++ reporting ++ closing) fun t =>
              entered t ∧ Logged [.permitUsed j] [] s t) ∧
          (x.state ≠ .locked → x.permit = false →
            Happens (.entryMarker j) s ([.table, .queues, .latch] ++ reporting ++ closing) fun t =>
              entered t ∧ t.emerg.recorded = s.emerg.recorded ||| 0x0020 ∧
              (s.emerg.recorded = 0 →
                Logged [.emergencyApplied .point, .junctionOverrun j code] [.emergency] s t)))) ∧
      (let request : Priority := ⟨j, s.vl.priorityClass⟩
       let stopping := s.stop.own.phase = .requested ∨ s.stop.own.phase = .atStop
       (near = true → stopping →
         Happens (.signalMarker j near) s (.heldPriority :: reporting) fun t => t.wayside.held = some request ∧
           Logged ((match s.wayside.held with
             | some old => [.priorityDropped old.crossing .replaced]
             | none => []) ++ [.priorityHeld j s.vl.priorityClass]) [] s t) ∧
       ((near = false ∨ ¬ stopping) →
         (s.wayside.sending.isSome = true → s.wayside.sp.length < 2 →
           Happens (.signalMarker j near) s (.queues :: reporting) fun t =>
             t.wayside = { s.wayside with sp := s.wayside.sp ++ [request] } ∧
             Logged [.priorityRequested j s.vl.priorityClass] [] s t) ∧
         (idle → Happens (.signalMarker j near) s (.queues :: reporting) fun t =>
           t.wayside = { s.wayside with
             sending := some ⟨.priorityRequest j s.vl.vehicleNumber s.vl.priorityClass, .sp, 12⟩, parked := .sp
             ptr0 := if s.wayside.levels.sp then .jr else .slot
             ptr1 := if s.wayside.levels.sp then .vx else s.wayside.ptr1 } ∧
           Logged [.priorityRequested j s.vl.priorityClass] [] s t) ∧
         (2 ≤ s.wayside.sp.length →
           Happens (.signalMarker j near) s reporting fun t => Logged [.priorityDropped j .full] [] s t))))

/-- A point report is judged against its record and offered to the enquiry slot; an acknowledgement for the own vehicle is
remembered and empties SP of its crossing; a discarded telegram raises WAYSIDE_CHECK where it failed; at the end of a
transmission the arbiter's search over both rings grants the next source, or parks (R99 to R101, R116, R121, R122, R127 to R131,
R135; log 22). -/
def Obligations.ReportsAcksAndTransmissionEnd : Prop :=
  ∀ (j v : Nat) (pos : Position) (lock : Lock) (x : JunctionRecord) (s : State), (∀ n, s.auth.record ≠ .stabled n) →
    let report : Report := ⟨pos, lock, 0⟩
    let row := Instr.pointReport j pos lock
    let becomes := fun (y : JunctionRecord) => s.junction.records.map fun z => if z.junction = j then y else z
    let slot : Enquiry := match s.junction.enquiry with
      | .waiting k n => if k = j then .ready j report 3000 else .waiting k n
      | .ready k r n => if k = j then .ready j report n else .ready k r n
      | .free => .free
    let atLeg := (pos = .left ∧ x.leg = some .left) ∨ (pos = .straight ∧ x.leg = some .straight) ∨
      (pos = .right ∧ x.leg = some .right)
    let judged := x.state = .requested ∨ x.state = .set ∨ x.state = .mismatch ∨ x.state = .noReport
    let gives := fun (y : JunctionRecord) (events : List TripEvent) =>
      Happens row s ([.table, .enquiry] ++ reporting ++ closing) fun t => t.junction.records = becomes y ∧
        t.junction.overflow = s.junction.overflow ∧ t.junction.enquiry = slot ∧ Logged events [] s t
    (1 ≤ j → j ≤ 4095 → (∀ n, lock = .lockedFor n → n < 65536) →
      (s.record j = none → Happens row s [.enquiry] fun t => t.junction.enquiry = slot) ∧
      (s.record j = some x → TableSound s →
        (x.state = .onPoint → gives x []) ∧
        (x.state = .unplanned → gives { x with lastReport := some report } []) ∧
        (judged → lock = .lockedFor s.vl.vehicleNumber → atLeg →
          gives { x with lastReport := some report, state := .locked, reportTimer := none, reTimer := none }
            [.junctionLocked j]) ∧
        (judged → lock = .free → atLeg → x.state ≠ .set →
          gives { x with lastReport := some report, state := .set, reportTimer := none } []) ∧
        (judged → (lock = .free ∨ lock = .lockedFor s.vl.vehicleNumber) → pos = .moving → x.state = .requested →
          gives { x with lastReport := some report, reportTimer := some 2000 } []) ∧
        (judged → (lock = .occupied ∨ (∃ n, n ≠ s.vl.vehicleNumber ∧ lock = .lockedFor n) ∨
            (¬ atLeg ∧ pos ≠ .moving)) →
          gives { x with lastReport := some report, state := .mismatch, reportTimer := none }
            (if x.state = .mismatch then [] else [.junctionMismatch j pos lock])) ∧
        (x.state = .locked → lock = .lockedFor s.vl.vehicleNumber → atLeg →
          gives { x with lastReport := some report, reportTimer := none, reTimer := none } []) ∧
        (x.state = .locked → (lock ≠ .lockedFor s.vl.vehicleNumber ∨ ¬ atLeg) →
          gives { x with lastReport := some report, state := .mismatch, reportTimer := none, reTimer := some 1000 }
            [.lockLost j pos lock])) ∧
      (v = s.vl.vehicleNumber → Happens (.priorityAck j v) s ([.queues, .acked] ++ reporting) fun t =>
        t.wayside = { s.wayside with acked := some (j, 0), sp := s.wayside.sp.filter fun r => decide (r.crossing ≠ j) } ∧
        Logged [.priorityGranted j] [] s t) ∧
      (v ≠ s.vl.vehicleNumber → Happens (.priorityAck j v) s [] fun _ => True)) ∧
    Happens (.telegramDiscarded false) s [] (fun _ => True) ∧
    (Happens (.telegramDiscarded true) s [.flags, .owed, .port .vl] fun t => Logged [] [.waysideCheck] s t) ∧
    (s.wayside.sending.isSome = true → s.wayside.jr = [] → s.wayside.sp = [] → s.wayside.vx = [] →
      (s.wayside.jq = [] → Happens .txDone s [.queues] fun t => t.wayside = { s.wayside with sending := none }) ∧
      (∀ k rest, s.wayside.jq = k :: rest → s.wayside.levels.jq = false →
        Happens .txDone s [.queues] fun t => t.wayside = { s.wayside with
          jq := rest, ptr0 := .sp, parked := .jq
          sending := some ⟨.statusQuery k s.vl.vehicleNumber, .jq, 12⟩ })) ∧
    (s.wayside.sending.isSome = true →
      (∀ src, searchGrant s.wayside = some src → Happens .txDone s [.queues, .table] (Granted src s)) ∧
      (searchGrant s.wayside = none → s.wayside.jr = [] ∧ s.wayside.jq = [] ∧ s.wayside.sp = [] ∧ s.wayside.vx = [] ∧
        Happens .txDone s [.queues] fun t => t.wayside = { s.wayside with sending := none }))

/-! ### Stop requests -/

/-- A press debounced on a line of class STANDARD or ASSIST is held, and the stop state takes it: NONE becomes REQUESTED,
REQUESTED gains the door, AT_STOP pulses a door of a released side, DEPARTING keeps it as an early press; a REMOTE part forwards
it, with a pulse where its mirror is AT_STOP with the side released, and ignores it there with the side not released; a STABLED
part of level 1 or more discards it (R21, R140 to R146, R155; log 3). The presses a frame forwards are taken by a lead as
presses of doors 8 to 15 without a pulse, and by no other part (R156); a frame's stop block is the mirror of a REMOTE part,
turned through its facing end, with its outputs, pulses and chimes (R157, R158, R190; log 21). -/
def Obligations.PressesReachTheStopState : Prop :=
  ∀ (n : Fin 32) (s : State),
    let line := s.stop.lines[n]
    let d := line.door
    let bit : Word16 := 1 <<< d.val
    let cls : PressClass := if line.cls = .assist then .assist else .standard
    let side := if 4 ≤ d.val then s.stop.own.side2 else s.stop.own.side1
    let own := s.stop.own
    let taken := fun t : State =>
      t.stop.lines[n] = { line with state := .held, activeRun := 3 } ∧ ∀ m : Fin 32, m ≠ n → t.stop.lines[m] = s.stop.lines[m]
    let happens := fun parts effect =>
      Happens (.stopRequestPress n) s (.lines :: parts) fun t => taken t ∧ effect t
    let assisted := cls = .assist ∧ own.assist = false
    (line.cls ≠ .off → line.state = .counting → 2 ≤ line.activeRun →
      (∀ i, s.auth.record = .stabled i → 1 ≤ i → happens [] fun _ => True) ∧
      ((∀ i, s.auth.record ≠ .stabled i) → s.auth.record ≠ .remote →
        (own.phase = .none → happens ([.stopState] ++ reporting ++ closing) fun t =>
          t.stop.own = { own with
            phase := .requested, doors := own.doors ||| bit, assist := own.assist || decide (cls = .assist) } ∧
          t.outputs.sign = true ∧
          (assisted → Logged [.stopRequested d.val cls, .assistRequested d.val] [] s t) ∧
          (¬ assisted → Logged [.stopRequested d.val cls] [] s t)) ∧
        (own.phase = .requested → happens ([.stopState] ++ reporting ++ closing) fun t =>
          t.stop.own = { own with doors := own.doors ||| bit, assist := own.assist || decide (cls = .assist) } ∧
          (assisted → Logged [.assistRequested d.val] [] s t) ∧ (¬ assisted → Logged [] [] s t)) ∧
        (own.phase = .atStop → side = true → happens ([.stopState, .pulses] ++ reporting ++ closing) fun t =>
          t.stop.own = { own with doors := own.doors ||| bit, assist := own.assist || decide (cls = .assist) } ∧
          t.stop.pulses = s.stop.pulses.set d (some 200) ∧ t.outputs.autoOpen.getLsbD d.val = true) ∧
        (own.phase = .atStop → side = false → happens [] fun _ => True) ∧
        (own.phase = .departing → happens [.stopState] fun t =>
          t.stop.own = { own with
            earlyPress := true, earlyDoors := own.earlyDoors ||| bit,
            earlyAssist := own.earlyAssist || decide (cls = .assist) })) ∧
      (s.auth.record = .remote → s.stop.mirror.map Mirror.phase ≠ some .atStop →
        happens [.mirror] fun t => t.stop.mirror = s.stop.mirror ∧ t.stop.forward =
          (if s.stop.forward[d] = some .assist then s.stop.forward else s.stop.forward.set d (some cls))) ∧
      (s.auth.record = .remote → ∀ m, s.stop.mirror = some m → m.phase = .atStop →
        let open' := if 4 ≤ d.val then m.side2 else m.side1
        (open' = true → happens ([.mirror, .pulses] ++ closing) fun t => t.stop.mirror = s.stop.mirror ∧ t.stop.forward =
          (if s.stop.forward[d] = some .assist then s.stop.forward else s.stop.forward.set d (some cls)) ∧
          t.stop.pulses = s.stop.pulses.set d (some 200) ∧ t.outputs.autoOpen.getLsbD d.val = true) ∧
        (open' = false → happens [] fun _ => True))) ∧
    (∀ (e : End) (tag : Byte) (page : List Byte) (f : ConsistFrame), Brings tag page f s → StaysCoupled f s → Settled s →
      let frame := fun effect : State → Prop => Gives (.consistPage e tag page) s effect
      (∀ x presses, s.auth.record = .active x → f.presses = some presses →
        let added : Word16 := (List.range 8).foldl
          (fun acc k => if (presses[k]?).join.isSome then acc ||| (1 <<< (k + 8)) else acc) 0
        let any := ∃ k : Fin 8, presses[k] ≠ none
        let assist := decide (∃ k : Fin 8, presses[k] = some .assist)
        frame fun t => t.stop.pulses = s.stop.pulses ∧
          (¬ any → t.stop.own = own) ∧
          (any → own.phase ≠ .departing → t.stop.own = { own with
            phase := if own.phase = .atStop then .atStop else .requested
            doors := own.doors ||| added
            assist := own.assist || assist }) ∧
          (any → own.phase = .departing → t.stop.own = { own with
            earlyPress := true, earlyDoors := own.earlyDoors ||| added, earlyAssist := own.earlyAssist || assist }) ∧
          (own.phase = .none → ∀ (k : Fin 8) pressed, presses[k] = some pressed → (∀ m : Fin 8, m < k → presses[m] = none) →
            Reported (.stopRequested (k.val + 8) pressed) t) ∧
          (own.assist = false → own.phase ≠ .departing → ∀ k : Fin 8, presses[k] = some .assist →
            (∀ m : Fin 8, m < k → presses[m] ≠ some .assist) → Reported (.assistRequested (k.val + 8)) t)) ∧
      (f.intent = none ∨ f.authority.state = .claiming → frame fun t =>
        t.consist.role ≠ some .lead → t.auth.record = s.auth.record → t.stop.own = own) ∧
      (s.auth.record = .remote → f.authority.state = .active →
        (f.stopBlock = none → frame fun t => t.stop.mirror = s.stop.mirror ∧ t.stop.pulses = s.stop.pulses) ∧
        ∀ block, f.stopBlock = some block →
          let sides : Bool × Bool := match facingOf e f with
            | some .a => (block.left, block.right)
            | some .b => (block.right, block.left)
            | none => (false, false)
          let old := s.stop.mirror.getD ⟨.none, 0, false, false, false⟩
          let rings : Option (Fin 16) :=
            if block.phase = .departing ∧ old.phase ≠ .departing then some 4
            else if block.assist = true ∧ old.assist = false then some 3
            else if block.phase = .requested ∧ old.phase ≠ .requested then some 2 else none
          frame fun t => t.stop.mirror = some ⟨block.phase, block.doors, block.assist, sides.1, sides.2⟩ ∧
            t.outputs.enable1 = sides.1 ∧ t.outputs.enable2 = sides.2 ∧
            (t.outputs.sign = true ↔ block.phase ≠ .none) ∧
            (block.phase = .departing ∨ block.phase = .none → ∀ k : Fin 8, t.stop.pulses[k] = none) ∧
            (block.phase = .requested ∨ block.phase = .atStop → ∀ k : Fin 8, t.stop.pulses[k] =
              if block.doors.getLsbD (k.val + 8) = true ∧
                  (if 4 ≤ k.val then sides.2 && !old.side2 else sides.1 && !old.side1) = true then some 200
              else s.stop.pulses[k]) ∧
            (rings = none → t.sound.channels.chime = s.sound.channels.chime) ∧
            (∀ pattern, rings = some pattern → s.vl.quiet = false → s.sound.channels.chime.playing = none →
              ∃ age, t.sound.channels.chime.playing = some ⟨.mirror, pattern, 1, 0, age, false⟩)))

/-- A sample moves every line as its state and class say, and restarts the 10 ms timer; without a line in COUNTING or HELD it
changes nothing else. A line held too long is STUCK, a STUCK line is freed, an auto-open pulse that expires drops its output
(R139 to R141, R148; log 3). -/
def Obligations.LinesAreSampled : Prop :=
  ∀ (samples : BitVec 32) (n : Fin 32) (door : Fin 8) (s : State),
    let line := s.stop.lines[n]
    let active := samples.getLsbD n.val
    let idle : RequestLine := { line with state := .idle, activeRun := 0, inactiveRun := 0 }
    let sampled : RequestLine := if line.cls = .off then line else match line.state with
      | .idle => if active then { line with state := .counting, activeRun := 1 } else line
      | .counting => if active then
          (if 2 ≤ line.activeRun then { line with state := .held, activeRun := 3 }
            else { line with activeRun := line.activeRun + 1 })
        else idle
      | .held => if active then
          (if 999 ≤ line.activeRun then { line with state := .stuck, activeRun := 1000, inactiveRun := 0 }
            else { line with activeRun := line.activeRun + 1 })
        else idle
      | .stuck => if active then { line with inactiveRun := 0 }
        else if 99 ≤ line.inactiveRun then idle else { line with inactiveRun := line.inactiveRun + 1 }
    (Gives (.samplingTimerExpires samples) s fun t => t.stop.lines[n] = sampled ∧
      t.pins = { s.pins with requests := samples } ∧ t.clock = { s.clock with sampling := 10 } ∧
      t.speed = s.speed ∧ t.shaper = s.shaper) ∧
    (Settled s → (∀ m : Fin 32, s.stop.lines[m].state = .idle ∨ s.stop.lines[m].state = .stuck) →
      Gives (.samplingTimerExpires samples) s fun t => Changes [.pins, .lines, .clock] s t) ∧
    (line.state = .held → 999 ≤ line.activeRun →
      Happens (.buttonStuck n) s (.lines :: reporting) fun t =>
        t.stop.lines = s.stop.lines.set n { line with state := .stuck, activeRun := 1000, inactiveRun := 0 } ∧
        Logged [.buttonStuck n line.door] [] s t) ∧
    (line.state = .stuck → 99 ≤ line.inactiveRun →
      Happens (.stuckLineFreed n) s [.lines] fun t => t.stop.lines = s.stop.lines.set n idle) ∧
    Happens (.autoOpenPulseExpires door) s (.pulses :: closing) fun t =>
      t.stop.pulses = s.stop.pulses.set door none ∧ t.outputs.autoOpen.getLsbD door.val = false

/-! ### Coupled running and sound -/

/-- The partner timer: JOINING falls back to SINGLE, a pair at standstill as well, and an active part that loses its partner
while moving is SEVERED with source CONSIST. The sound timers: a playing entry goes on to its next step, repeats, or gives way
to the first waiting one; the horn is forced off for 500 ms after its limit and follows its entry again (R18, R169, R175, R177,
R178, R187, R192; log 2 for the limit's row, log 10 for CONSIST_CHANGED before EMERGENCY_APPLIED). A frame of the partner brings the PARTNER source and the
lead's PARTNER demand, lets a REMOTE part at standstill withdraw its clear sources and release itself, and mirrors the bell (R76
to R78, R80, R179). -/
def Obligations.PartnerAndSoundTimers : Prop :=
  ∀ (k : Speaker) (s : State),
    let channel := s.sound.channels.get k
    let starts := fun (x : SoundEntry) (rest : List SoundEntry) (c : SoundChannel) =>
      c.playing = some x ∧ c.waiting = rest ∧
        (1 ≤ x.step → ∀ h : x.step - 1 < 8, c.left = 10 * (s.sound.patterns[x.pattern].steps[x.step - 1]'h).units)
    (s.consist.timer ≠ none →
      (s.consist.state = .joining → s.consist.role = none →
        Happens .partnerTimerExpires s ([.consist, .exchange] ++ reporting) fun t =>
          t.consist = ⟨.single, none, none, 0, none, none, none, none⟩ ∧ t.auth.answered = none ∧
          Logged [.consistChanged .single none 0] [] s t) ∧
      (s.consist.state = .coupled → (∃ e, s.auth.record = .active e) → s.speed.standstill = false → LadderSound s →
        ConsistSound s → ∀ v r, s.consist.identity = some (v, r) →
        Happens .partnerTimerExpires s ([.consist, .exchange, .ladder, .latch] ++ reporting ++ closing) fun t =>
          t.consist = { s.consist with state := .severed, role := none, timer := none, facingEnd := none } ∧
          t.emerg.demands = { s.emerg.demands with partner := none } ∧ t.emerg.divisor = s.emerg.divisor ∧
          t.emerg.recorded = s.emerg.recorded ||| 0x0080 ∧ t.auth.answered = none ∧
          (s.emerg.recorded = 0 →
            Logged [.consistChanged .severed none v, .emergencyApplied .consist] [.emergency] s t))) ∧
    (s.consist.timer ≠ none → s.speed.standstill = true → ConsistSound s → (∀ i, s.auth.record ≠ .claiming i) →
      (s.consist.state = .coupled ∨ s.consist.state = .conflict ∨ s.consist.state = .mismatch) →
      Happens .partnerTimerExpires s ([.record, .consist, .exchange, .ladder, .pulses, .mirror, .bellItem] ++ reporting ++
        closing) fun t =>
          t.consist = ⟨.single, none, none, 0, none, none, none, none⟩ ∧
          t.auth.record = (if s.auth.record = .remote then .dark else s.auth.record)) ∧
    (∀ x, channel.playing = some x →
      let pattern := s.sound.patterns[x.pattern]
      let again := { x with step := 1, repeats := x.repeats + 1 }
      Happens (.soundStepExpires k) s closing fun t =>
        let after := t.sound.channels.get k
        (x.step < pattern.count → starts { x with step := x.step + 1 } channel.waiting after) ∧
        (pattern.count ≤ x.step →
          (pattern.rep = .held → x.held = true → starts again channel.waiting after) ∧
          (∀ m, pattern.rep = .times m → x.repeats + 1 < m → starts again channel.waiting after) ∧
          ((pattern.rep = .held ∧ x.held = false) ∨ (∃ m, pattern.rep = .times m ∧ m ≤ x.repeats + 1) →
            (channel.waiting = [] → after = ⟨none, 0, []⟩) ∧
            (∀ w rest, channel.waiting = w :: rest → starts w rest after))) ∧
        ∀ o, o ≠ k → t.sound.channels.get o = s.sound.channels.get o) ∧
    ((soundOutputs s).horn ≠ .off →
      Happens .hornOnTimeLimit s (.forcedOff :: closing) fun t =>
        t.sound.forcedOff = some 500 ∧ t.sound.hornOn = 0 ∧ t.outputs.sounds.horn = .off) ∧
    (s.sound.forcedOff ≠ none →
      Happens .forcedOffTimerExpires s (.forcedOff :: closing) fun t =>
        t.sound.forcedOff = none ∧ t.sound.hornOn = 0 ∧ (s.sound.channels.horn.playing = none → t.outputs.sounds.horn = .off) ∧
        (∀ x, s.sound.channels.horn.playing = some x → 1 ≤ x.step → ∀ h : x.step - 1 < 8,
          (t.outputs.sounds.horn = .off ↔ (s.sound.patterns[x.pattern].steps[x.step - 1]'h).output = .off))) ∧
    (∀ (e : End) (tag : Byte) (page : List Byte) (f : ConsistFrame), Brings tag page f s → Settled s →
      let frame := fun effect : State → Prop => Gives (.consistPage e tag page) s effect
      let holds := fun (t : State) (src : EmergencySource) => t.emerg.recorded.getLsbD src.bit = true
      let stays := s.auth.record = .remote ∧ (f.authority.state = .active ∨ f.authority.state = .claiming)
      let quiet := f.ownSources = 0 ∧ f.holding = false
      ((∀ n, s.auth.record ≠ .stabled n) → frame fun t =>
        let sets := t.consist.state = .coupled ∧ (f.ownSources ≠ 0 ∨ (t.auth.record = .remote ∧ f.holding = true))
        (sets → holds t .partner) ∧ (¬ sets → holds t .partner → holds s .partner)) ∧
      (StaysCoupled f s →
        (stays → s.speed.standstill = true → ¬ quiet → frame fun t => t.auth.record = .remote ∧
          (∀ src, holds t src ↔ src = .partner ∨ (holds s src ∧ conditionClear e t src = false)) ∧
          (s.emerg.recorded ≠ 0 → t.emerg.first = s.emerg.first)) ∧
        (stays → s.speed.standstill = true → quiet → holds s .partner → frame fun t =>
          ((∃ src, src ≠ .partner ∧ holds s src ∧ conditionClear e t src = false) → holds t .partner ∧
            (∀ src, holds t src ↔ src = .partner ∨ (holds s src ∧ conditionClear e t src = false)) ∧
            t.emerg.first = s.emerg.first) ∧
          ((∀ src, src ≠ .partner → holds s src → conditionClear e t src = true) →
            t.emerg.recorded = 0 ∧ t.emerg.first = none ∧ (s.emerg.divisor ≤ 8 → t.emerg.divisor = 8) ∧
            t.shaper = { s.shaper with released := true } ∧
            Reported (.emergencyReleased s.emerg.first) t)) ∧
        (stays → frame fun t => t.sound.bellItem = some f.manualBell ∧
          (f.manualBell = true → s.sound.bellItem ≠ some true → quiet → s.sound.channels.bell.playing = none →
            ∃ age, t.sound.channels.bell.playing = some ⟨.mirror, 0, 1, 0, age, true⟩) ∧
          (f.manualBell = false → s.sound.bellItem = some true → SoundsSound s →
            t.sound.channels.bell.holds .mirror = false) ∧
          ((f.manualBell = true ↔ s.sound.bellItem = some true) → quiet → s.emerg.recorded = 0 →
            t.sound.channels.bell = s.sound.channels.bell)) ∧
        ((∃ x, s.auth.record = .active x) → LadderSound s → frame fun t =>
          t.emerg.demands = { s.emerg.demands with partner := some (rung f.divisor) } ∧
          t.emerg.divisor = max s.emerg.divisor t.emerg.demands.target)))

/-! ### Layouts -/

/-- What the part writes it reads back: a link frame of at most 12 payload bytes is received as its KIND, TAG and payload and
ends in its check; the two pages of a consist frame with fields in range give the frame, no bit dropped (log 15 for absent items
and log 49 for the door order); markers and reports give their rows (log 14 for a near-side flag byte other than 0 and 1). A trip event has
11 bytes. A VEHICLE REPORT goes out as 11 numbered pages, and the frames of every entry have the lengths its wire time counts
(R119, R122, R196, R197, R199, R204, section 10.10; log 15 for the bytes of a report whose bits are open, logs 49 and 50 for its
sets and stop byte, log 52 for the source a trip event names). -/
def Obligations.LayoutsReadBack : Prop :=
  (∀ (p : Port) (e : End) (kind tag : Byte) (payload : List Byte), payload.length ≤ 12 →
    receiveFrame p e false (linkFrame kind tag payload) = dispatchFrame p e kind tag payload) ∧
  (∀ f : ConsistFrame, f.vehicle < 65536 → f.rank < 256 → f.length < 65536 → f.divisor < 256 → f.ceiling < 65536 →
    -128 ≤ f.rk → f.rk ≤ 127 → f.ownSources &&& 0xFC00 = 0 →
    consistOf (consistPage0 f) (consistPage1 f) = some f ∧
      (consistPage0 f).length = 12 ∧ (consistPage1 f).length = 11) ∧
  (∀ j : Nat, 1 ≤ j → j ≤ 4095 →
    receiveMarker (waysideFrame 0x21 j []) = .requestMarker j ∧ receiveMarker (waysideFrame 0x22 j []) = .entryMarker j ∧
    (∀ b : Byte, receiveMarker (waysideFrame 0x23 j [b]) = .signalMarker j (decide (b ≠ 0))) ∧
    ∀ v : Nat, v < 65536 →
      receiveTelegram (waysideFrame 0x39 j [BitVec.ofNat 8 (v / 256), BitVec.ofNat 8 v]) = .priorityAck j v ∧
      ∀ (pos : Position) (lock : Lock), (∀ n, lock = .lockedFor n → n < 65536) →
        receiveTelegram (waysideFrame 0x38 j [BitVec.ofNat 8 (lockVehicle lock / 256), BitVec.ofNat 8 (lockVehicle lock),
          BitVec.ofNat 8 (positionCode pos + 16 * lockCode lock)]) = .pointReport j pos lock) ∧
  (∀ e : EventEntry, e.bytes.length = 11) ∧
  (∀ kind tag : Byte, ∀ payload : List Byte,
    let body := BitVec.ofNat 8 (payload.length + 2) :: kind :: tag :: payload
    let check : Word16 := body.foldl (fun acc b => acc.rotateLeft 5 + b.setWidth 16) 0xA5C3
    linkFrame kind tag payload = body ++ [check.extractLsb' 8 8, check.extractLsb' 0 8]) ∧
  (∀ f : VehicleReport, f.pages.map List.head? =
    [some 0x0B, some 0x1B, some 0x2B, some 0x3B, some 0x4B, some 0x5B, some 0x6B, some 0x7B, some 0x8B, some 0x9B, some 0xAB]) ∧
  ∀ x : TxEntry, x.frames = x.payloads.map (linkFrame x.kind x.tag) ∧
    x.payloads.map List.length = x.payloadLengths ∧ x.frames.map List.length = x.payloadLengths.map (· + 5) ∧
    ((∀ kind tag data, x ≠ .accepted kind tag data) → ∀ page ∈ x.payloads, page.length ≤ 12)
end

