-- ==== Sys2Proof/Laws/State.lean ====
section
/-!
SUPPORT. One lemma for each field of `State` and each update of `Machine/Access.lean`, true by rfl; and the reads of the records that
hold a value for every end, port, axle and sound channel after a write.
-/

namespace Sys2Proof.Machine

/-! ### `State.withPins` -/

@[simp] theorem State.withPins_pins (s : State) (x : Pins) : (s.withPins x).pins = x := rfl

@[simp] theorem State.withPins_outputs (s : State) (x : Pins) : (s.withPins x).outputs = s.outputs := rfl

@[simp] theorem State.withPins_auth (s : State) (x : Pins) : (s.withPins x).auth = s.auth := rfl

@[simp] theorem State.withPins_speed (s : State) (x : Pins) : (s.withPins x).speed = s.speed := rfl

@[simp] theorem State.withPins_shaper (s : State) (x : Pins) : (s.withPins x).shaper = s.shaper := rfl

@[simp] theorem State.withPins_emerg (s : State) (x : Pins) : (s.withPins x).emerg = s.emerg := rfl

@[simp] theorem State.withPins_junction (s : State) (x : Pins) : (s.withPins x).junction = s.junction := rfl

@[simp] theorem State.withPins_wayside (s : State) (x : Pins) : (s.withPins x).wayside = s.wayside := rfl

@[simp] theorem State.withPins_stop (s : State) (x : Pins) : (s.withPins x).stop = s.stop := rfl

@[simp] theorem State.withPins_sound (s : State) (x : Pins) : (s.withPins x).sound = s.sound := rfl

@[simp] theorem State.withPins_consist (s : State) (x : Pins) : (s.withPins x).consist = s.consist := rfl

@[simp] theorem State.withPins_ports (s : State) (x : Pins) : (s.withPins x).ports = s.ports := rfl

@[simp] theorem State.withPins_assembly (s : State) (x : Pins) : (s.withPins x).assembly = s.assembly := rfl

@[simp] theorem State.withPins_vl (s : State) (x : Pins) : (s.withPins x).vl = s.vl := rfl

@[simp] theorem State.withPins_clock (s : State) (x : Pins) : (s.withPins x).clock = s.clock := rfl

@[simp] theorem State.withPins_pending (s : State) (x : Pins) : (s.withPins x).pending = s.pending := rfl

/-! ### `State.withOutputs` -/

@[simp] theorem State.withOutputs_pins (s : State) (x : Outputs) : (s.withOutputs x).pins = s.pins := rfl

@[simp] theorem State.withOutputs_outputs (s : State) (x : Outputs) : (s.withOutputs x).outputs = x := rfl

@[simp] theorem State.withOutputs_auth (s : State) (x : Outputs) : (s.withOutputs x).auth = s.auth := rfl

@[simp] theorem State.withOutputs_speed (s : State) (x : Outputs) : (s.withOutputs x).speed = s.speed := rfl

@[simp] theorem State.withOutputs_shaper (s : State) (x : Outputs) : (s.withOutputs x).shaper = s.shaper := rfl

@[simp] theorem State.withOutputs_emerg (s : State) (x : Outputs) : (s.withOutputs x).emerg = s.emerg := rfl

@[simp] theorem State.withOutputs_junction (s : State) (x : Outputs) : (s.withOutputs x).junction = s.junction := rfl

@[simp] theorem State.withOutputs_wayside (s : State) (x : Outputs) : (s.withOutputs x).wayside = s.wayside := rfl

@[simp] theorem State.withOutputs_stop (s : State) (x : Outputs) : (s.withOutputs x).stop = s.stop := rfl

@[simp] theorem State.withOutputs_sound (s : State) (x : Outputs) : (s.withOutputs x).sound = s.sound := rfl

@[simp] theorem State.withOutputs_consist (s : State) (x : Outputs) : (s.withOutputs x).consist = s.consist := rfl

@[simp] theorem State.withOutputs_ports (s : State) (x : Outputs) : (s.withOutputs x).ports = s.ports := rfl

@[simp] theorem State.withOutputs_assembly (s : State) (x : Outputs) : (s.withOutputs x).assembly = s.assembly := rfl

@[simp] theorem State.withOutputs_vl (s : State) (x : Outputs) : (s.withOutputs x).vl = s.vl := rfl

@[simp] theorem State.withOutputs_clock (s : State) (x : Outputs) : (s.withOutputs x).clock = s.clock := rfl

@[simp] theorem State.withOutputs_pending (s : State) (x : Outputs) : (s.withOutputs x).pending = s.pending := rfl

/-! ### `State.withAuth` -/

@[simp] theorem State.withAuth_pins (s : State) (x : AuthUnit) : (s.withAuth x).pins = s.pins := rfl

@[simp] theorem State.withAuth_outputs (s : State) (x : AuthUnit) : (s.withAuth x).outputs = s.outputs := rfl

@[simp] theorem State.withAuth_auth (s : State) (x : AuthUnit) : (s.withAuth x).auth = x := rfl

@[simp] theorem State.withAuth_speed (s : State) (x : AuthUnit) : (s.withAuth x).speed = s.speed := rfl

@[simp] theorem State.withAuth_shaper (s : State) (x : AuthUnit) : (s.withAuth x).shaper = s.shaper := rfl

@[simp] theorem State.withAuth_emerg (s : State) (x : AuthUnit) : (s.withAuth x).emerg = s.emerg := rfl

@[simp] theorem State.withAuth_junction (s : State) (x : AuthUnit) : (s.withAuth x).junction = s.junction := rfl

@[simp] theorem State.withAuth_wayside (s : State) (x : AuthUnit) : (s.withAuth x).wayside = s.wayside := rfl

@[simp] theorem State.withAuth_stop (s : State) (x : AuthUnit) : (s.withAuth x).stop = s.stop := rfl

@[simp] theorem State.withAuth_sound (s : State) (x : AuthUnit) : (s.withAuth x).sound = s.sound := rfl

@[simp] theorem State.withAuth_consist (s : State) (x : AuthUnit) : (s.withAuth x).consist = s.consist := rfl

@[simp] theorem State.withAuth_ports (s : State) (x : AuthUnit) : (s.withAuth x).ports = s.ports := rfl

@[simp] theorem State.withAuth_assembly (s : State) (x : AuthUnit) : (s.withAuth x).assembly = s.assembly := rfl

@[simp] theorem State.withAuth_vl (s : State) (x : AuthUnit) : (s.withAuth x).vl = s.vl := rfl

@[simp] theorem State.withAuth_clock (s : State) (x : AuthUnit) : (s.withAuth x).clock = s.clock := rfl

@[simp] theorem State.withAuth_pending (s : State) (x : AuthUnit) : (s.withAuth x).pending = s.pending := rfl

/-! ### `State.withSpeed` -/

@[simp] theorem State.withSpeed_pins (s : State) (x : SpeedUnit) : (s.withSpeed x).pins = s.pins := rfl

@[simp] theorem State.withSpeed_outputs (s : State) (x : SpeedUnit) : (s.withSpeed x).outputs = s.outputs := rfl

@[simp] theorem State.withSpeed_auth (s : State) (x : SpeedUnit) : (s.withSpeed x).auth = s.auth := rfl

@[simp] theorem State.withSpeed_speed (s : State) (x : SpeedUnit) : (s.withSpeed x).speed = x := rfl

@[simp] theorem State.withSpeed_shaper (s : State) (x : SpeedUnit) : (s.withSpeed x).shaper = s.shaper := rfl

@[simp] theorem State.withSpeed_emerg (s : State) (x : SpeedUnit) : (s.withSpeed x).emerg = s.emerg := rfl

@[simp] theorem State.withSpeed_junction (s : State) (x : SpeedUnit) : (s.withSpeed x).junction = s.junction := rfl

@[simp] theorem State.withSpeed_wayside (s : State) (x : SpeedUnit) : (s.withSpeed x).wayside = s.wayside := rfl

@[simp] theorem State.withSpeed_stop (s : State) (x : SpeedUnit) : (s.withSpeed x).stop = s.stop := rfl

@[simp] theorem State.withSpeed_sound (s : State) (x : SpeedUnit) : (s.withSpeed x).sound = s.sound := rfl

@[simp] theorem State.withSpeed_consist (s : State) (x : SpeedUnit) : (s.withSpeed x).consist = s.consist := rfl

@[simp] theorem State.withSpeed_ports (s : State) (x : SpeedUnit) : (s.withSpeed x).ports = s.ports := rfl

@[simp] theorem State.withSpeed_assembly (s : State) (x : SpeedUnit) : (s.withSpeed x).assembly = s.assembly := rfl

@[simp] theorem State.withSpeed_vl (s : State) (x : SpeedUnit) : (s.withSpeed x).vl = s.vl := rfl

@[simp] theorem State.withSpeed_clock (s : State) (x : SpeedUnit) : (s.withSpeed x).clock = s.clock := rfl

@[simp] theorem State.withSpeed_pending (s : State) (x : SpeedUnit) : (s.withSpeed x).pending = s.pending := rfl

/-! ### `State.withShaper` -/

@[simp] theorem State.withShaper_pins (s : State) (x : Shaper) : (s.withShaper x).pins = s.pins := rfl

@[simp] theorem State.withShaper_outputs (s : State) (x : Shaper) : (s.withShaper x).outputs = s.outputs := rfl

@[simp] theorem State.withShaper_auth (s : State) (x : Shaper) : (s.withShaper x).auth = s.auth := rfl

@[simp] theorem State.withShaper_speed (s : State) (x : Shaper) : (s.withShaper x).speed = s.speed := rfl

@[simp] theorem State.withShaper_shaper (s : State) (x : Shaper) : (s.withShaper x).shaper = x := rfl

@[simp] theorem State.withShaper_emerg (s : State) (x : Shaper) : (s.withShaper x).emerg = s.emerg := rfl

@[simp] theorem State.withShaper_junction (s : State) (x : Shaper) : (s.withShaper x).junction = s.junction := rfl

@[simp] theorem State.withShaper_wayside (s : State) (x : Shaper) : (s.withShaper x).wayside = s.wayside := rfl

@[simp] theorem State.withShaper_stop (s : State) (x : Shaper) : (s.withShaper x).stop = s.stop := rfl

@[simp] theorem State.withShaper_sound (s : State) (x : Shaper) : (s.withShaper x).sound = s.sound := rfl

@[simp] theorem State.withShaper_consist (s : State) (x : Shaper) : (s.withShaper x).consist = s.consist := rfl

@[simp] theorem State.withShaper_ports (s : State) (x : Shaper) : (s.withShaper x).ports = s.ports := rfl

@[simp] theorem State.withShaper_assembly (s : State) (x : Shaper) : (s.withShaper x).assembly = s.assembly := rfl

@[simp] theorem State.withShaper_vl (s : State) (x : Shaper) : (s.withShaper x).vl = s.vl := rfl

@[simp] theorem State.withShaper_clock (s : State) (x : Shaper) : (s.withShaper x).clock = s.clock := rfl

@[simp] theorem State.withShaper_pending (s : State) (x : Shaper) : (s.withShaper x).pending = s.pending := rfl

/-! ### `State.withEmerg` -/

@[simp] theorem State.withEmerg_pins (s : State) (x : EmergencyUnit) : (s.withEmerg x).pins = s.pins := rfl

@[simp] theorem State.withEmerg_outputs (s : State) (x : EmergencyUnit) : (s.withEmerg x).outputs = s.outputs := rfl

@[simp] theorem State.withEmerg_auth (s : State) (x : EmergencyUnit) : (s.withEmerg x).auth = s.auth := rfl

@[simp] theorem State.withEmerg_speed (s : State) (x : EmergencyUnit) : (s.withEmerg x).speed = s.speed := rfl

@[simp] theorem State.withEmerg_shaper (s : State) (x : EmergencyUnit) : (s.withEmerg x).shaper = s.shaper := rfl

@[simp] theorem State.withEmerg_emerg (s : State) (x : EmergencyUnit) : (s.withEmerg x).emerg = x := rfl

@[simp] theorem State.withEmerg_junction (s : State) (x : EmergencyUnit) : (s.withEmerg x).junction = s.junction := rfl

@[simp] theorem State.withEmerg_wayside (s : State) (x : EmergencyUnit) : (s.withEmerg x).wayside = s.wayside := rfl

@[simp] theorem State.withEmerg_stop (s : State) (x : EmergencyUnit) : (s.withEmerg x).stop = s.stop := rfl

@[simp] theorem State.withEmerg_sound (s : State) (x : EmergencyUnit) : (s.withEmerg x).sound = s.sound := rfl

@[simp] theorem State.withEmerg_consist (s : State) (x : EmergencyUnit) : (s.withEmerg x).consist = s.consist := rfl

@[simp] theorem State.withEmerg_ports (s : State) (x : EmergencyUnit) : (s.withEmerg x).ports = s.ports := rfl

@[simp] theorem State.withEmerg_assembly (s : State) (x : EmergencyUnit) : (s.withEmerg x).assembly = s.assembly := rfl

@[simp] theorem State.withEmerg_vl (s : State) (x : EmergencyUnit) : (s.withEmerg x).vl = s.vl := rfl

@[simp] theorem State.withEmerg_clock (s : State) (x : EmergencyUnit) : (s.withEmerg x).clock = s.clock := rfl

@[simp] theorem State.withEmerg_pending (s : State) (x : EmergencyUnit) : (s.withEmerg x).pending = s.pending := rfl

/-! ### `State.withJunction` -/

@[simp] theorem State.withJunction_pins (s : State) (x : JunctionUnit) : (s.withJunction x).pins = s.pins := rfl

@[simp] theorem State.withJunction_outputs (s : State) (x : JunctionUnit) : (s.withJunction x).outputs = s.outputs := rfl

@[simp] theorem State.withJunction_auth (s : State) (x : JunctionUnit) : (s.withJunction x).auth = s.auth := rfl

@[simp] theorem State.withJunction_speed (s : State) (x : JunctionUnit) : (s.withJunction x).speed = s.speed := rfl

@[simp] theorem State.withJunction_shaper (s : State) (x : JunctionUnit) : (s.withJunction x).shaper = s.shaper := rfl

@[simp] theorem State.withJunction_emerg (s : State) (x : JunctionUnit) : (s.withJunction x).emerg = s.emerg := rfl

@[simp] theorem State.withJunction_junction (s : State) (x : JunctionUnit) : (s.withJunction x).junction = x := rfl

@[simp] theorem State.withJunction_wayside (s : State) (x : JunctionUnit) : (s.withJunction x).wayside = s.wayside := rfl

@[simp] theorem State.withJunction_stop (s : State) (x : JunctionUnit) : (s.withJunction x).stop = s.stop := rfl

@[simp] theorem State.withJunction_sound (s : State) (x : JunctionUnit) : (s.withJunction x).sound = s.sound := rfl

@[simp] theorem State.withJunction_consist (s : State) (x : JunctionUnit) : (s.withJunction x).consist = s.consist := rfl

@[simp] theorem State.withJunction_ports (s : State) (x : JunctionUnit) : (s.withJunction x).ports = s.ports := rfl

@[simp] theorem State.withJunction_assembly (s : State) (x : JunctionUnit) : (s.withJunction x).assembly = s.assembly := rfl

@[simp] theorem State.withJunction_vl (s : State) (x : JunctionUnit) : (s.withJunction x).vl = s.vl := rfl

@[simp] theorem State.withJunction_clock (s : State) (x : JunctionUnit) : (s.withJunction x).clock = s.clock := rfl

@[simp] theorem State.withJunction_pending (s : State) (x : JunctionUnit) : (s.withJunction x).pending = s.pending := rfl

/-! ### `State.withWayside` -/

@[simp] theorem State.withWayside_pins (s : State) (x : Wayside) : (s.withWayside x).pins = s.pins := rfl

@[simp] theorem State.withWayside_outputs (s : State) (x : Wayside) : (s.withWayside x).outputs = s.outputs := rfl

@[simp] theorem State.withWayside_auth (s : State) (x : Wayside) : (s.withWayside x).auth = s.auth := rfl

@[simp] theorem State.withWayside_speed (s : State) (x : Wayside) : (s.withWayside x).speed = s.speed := rfl

@[simp] theorem State.withWayside_shaper (s : State) (x : Wayside) : (s.withWayside x).shaper = s.shaper := rfl

@[simp] theorem State.withWayside_emerg (s : State) (x : Wayside) : (s.withWayside x).emerg = s.emerg := rfl

@[simp] theorem State.withWayside_junction (s : State) (x : Wayside) : (s.withWayside x).junction = s.junction := rfl

@[simp] theorem State.withWayside_wayside (s : State) (x : Wayside) : (s.withWayside x).wayside = x := rfl

@[simp] theorem State.withWayside_stop (s : State) (x : Wayside) : (s.withWayside x).stop = s.stop := rfl

@[simp] theorem State.withWayside_sound (s : State) (x : Wayside) : (s.withWayside x).sound = s.sound := rfl

@[simp] theorem State.withWayside_consist (s : State) (x : Wayside) : (s.withWayside x).consist = s.consist := rfl

@[simp] theorem State.withWayside_ports (s : State) (x : Wayside) : (s.withWayside x).ports = s.ports := rfl

@[simp] theorem State.withWayside_assembly (s : State) (x : Wayside) : (s.withWayside x).assembly = s.assembly := rfl

@[simp] theorem State.withWayside_vl (s : State) (x : Wayside) : (s.withWayside x).vl = s.vl := rfl

@[simp] theorem State.withWayside_clock (s : State) (x : Wayside) : (s.withWayside x).clock = s.clock := rfl

@[simp] theorem State.withWayside_pending (s : State) (x : Wayside) : (s.withWayside x).pending = s.pending := rfl

/-! ### `State.withStop` -/

@[simp] theorem State.withStop_pins (s : State) (x : StopUnit) : (s.withStop x).pins = s.pins := rfl

@[simp] theorem State.withStop_outputs (s : State) (x : StopUnit) : (s.withStop x).outputs = s.outputs := rfl

@[simp] theorem State.withStop_auth (s : State) (x : StopUnit) : (s.withStop x).auth = s.auth := rfl

@[simp] theorem State.withStop_speed (s : State) (x : StopUnit) : (s.withStop x).speed = s.speed := rfl

@[simp] theorem State.withStop_shaper (s : State) (x : StopUnit) : (s.withStop x).shaper = s.shaper := rfl

@[simp] theorem State.withStop_emerg (s : State) (x : StopUnit) : (s.withStop x).emerg = s.emerg := rfl

@[simp] theorem State.withStop_junction (s : State) (x : StopUnit) : (s.withStop x).junction = s.junction := rfl

@[simp] theorem State.withStop_wayside (s : State) (x : StopUnit) : (s.withStop x).wayside = s.wayside := rfl

@[simp] theorem State.withStop_stop (s : State) (x : StopUnit) : (s.withStop x).stop = x := rfl

@[simp] theorem State.withStop_sound (s : State) (x : StopUnit) : (s.withStop x).sound = s.sound := rfl

@[simp] theorem State.withStop_consist (s : State) (x : StopUnit) : (s.withStop x).consist = s.consist := rfl

@[simp] theorem State.withStop_ports (s : State) (x : StopUnit) : (s.withStop x).ports = s.ports := rfl

@[simp] theorem State.withStop_assembly (s : State) (x : StopUnit) : (s.withStop x).assembly = s.assembly := rfl

@[simp] theorem State.withStop_vl (s : State) (x : StopUnit) : (s.withStop x).vl = s.vl := rfl

@[simp] theorem State.withStop_clock (s : State) (x : StopUnit) : (s.withStop x).clock = s.clock := rfl

@[simp] theorem State.withStop_pending (s : State) (x : StopUnit) : (s.withStop x).pending = s.pending := rfl

/-! ### `State.withSound` -/

@[simp] theorem State.withSound_pins (s : State) (x : SoundUnit) : (s.withSound x).pins = s.pins := rfl

@[simp] theorem State.withSound_outputs (s : State) (x : SoundUnit) : (s.withSound x).outputs = s.outputs := rfl

@[simp] theorem State.withSound_auth (s : State) (x : SoundUnit) : (s.withSound x).auth = s.auth := rfl

@[simp] theorem State.withSound_speed (s : State) (x : SoundUnit) : (s.withSound x).speed = s.speed := rfl

@[simp] theorem State.withSound_shaper (s : State) (x : SoundUnit) : (s.withSound x).shaper = s.shaper := rfl

@[simp] theorem State.withSound_emerg (s : State) (x : SoundUnit) : (s.withSound x).emerg = s.emerg := rfl

@[simp] theorem State.withSound_junction (s : State) (x : SoundUnit) : (s.withSound x).junction = s.junction := rfl

@[simp] theorem State.withSound_wayside (s : State) (x : SoundUnit) : (s.withSound x).wayside = s.wayside := rfl

@[simp] theorem State.withSound_stop (s : State) (x : SoundUnit) : (s.withSound x).stop = s.stop := rfl

@[simp] theorem State.withSound_sound (s : State) (x : SoundUnit) : (s.withSound x).sound = x := rfl

@[simp] theorem State.withSound_consist (s : State) (x : SoundUnit) : (s.withSound x).consist = s.consist := rfl

@[simp] theorem State.withSound_ports (s : State) (x : SoundUnit) : (s.withSound x).ports = s.ports := rfl

@[simp] theorem State.withSound_assembly (s : State) (x : SoundUnit) : (s.withSound x).assembly = s.assembly := rfl

@[simp] theorem State.withSound_vl (s : State) (x : SoundUnit) : (s.withSound x).vl = s.vl := rfl

@[simp] theorem State.withSound_clock (s : State) (x : SoundUnit) : (s.withSound x).clock = s.clock := rfl

@[simp] theorem State.withSound_pending (s : State) (x : SoundUnit) : (s.withSound x).pending = s.pending := rfl

/-! ### `State.withConsist` -/

@[simp] theorem State.withConsist_pins (s : State) (x : ConsistUnit) : (s.withConsist x).pins = s.pins := rfl

@[simp] theorem State.withConsist_outputs (s : State) (x : ConsistUnit) : (s.withConsist x).outputs = s.outputs := rfl

@[simp] theorem State.withConsist_auth (s : State) (x : ConsistUnit) : (s.withConsist x).auth = s.auth := rfl

@[simp] theorem State.withConsist_speed (s : State) (x : ConsistUnit) : (s.withConsist x).speed = s.speed := rfl

@[simp] theorem State.withConsist_shaper (s : State) (x : ConsistUnit) : (s.withConsist x).shaper = s.shaper := rfl

@[simp] theorem State.withConsist_emerg (s : State) (x : ConsistUnit) : (s.withConsist x).emerg = s.emerg := rfl

@[simp] theorem State.withConsist_junction (s : State) (x : ConsistUnit) : (s.withConsist x).junction = s.junction := rfl

@[simp] theorem State.withConsist_wayside (s : State) (x : ConsistUnit) : (s.withConsist x).wayside = s.wayside := rfl

@[simp] theorem State.withConsist_stop (s : State) (x : ConsistUnit) : (s.withConsist x).stop = s.stop := rfl

@[simp] theorem State.withConsist_sound (s : State) (x : ConsistUnit) : (s.withConsist x).sound = s.sound := rfl

@[simp] theorem State.withConsist_consist (s : State) (x : ConsistUnit) : (s.withConsist x).consist = x := rfl

@[simp] theorem State.withConsist_ports (s : State) (x : ConsistUnit) : (s.withConsist x).ports = s.ports := rfl

@[simp] theorem State.withConsist_assembly (s : State) (x : ConsistUnit) : (s.withConsist x).assembly = s.assembly := rfl

@[simp] theorem State.withConsist_vl (s : State) (x : ConsistUnit) : (s.withConsist x).vl = s.vl := rfl

@[simp] theorem State.withConsist_clock (s : State) (x : ConsistUnit) : (s.withConsist x).clock = s.clock := rfl

@[simp] theorem State.withConsist_pending (s : State) (x : ConsistUnit) : (s.withConsist x).pending = s.pending := rfl

/-! ### `State.withPorts` -/

@[simp] theorem State.withPorts_pins (s : State) (x : PerPort PortState) : (s.withPorts x).pins = s.pins := rfl

@[simp] theorem State.withPorts_outputs (s : State) (x : PerPort PortState) : (s.withPorts x).outputs = s.outputs := rfl

@[simp] theorem State.withPorts_auth (s : State) (x : PerPort PortState) : (s.withPorts x).auth = s.auth := rfl

@[simp] theorem State.withPorts_speed (s : State) (x : PerPort PortState) : (s.withPorts x).speed = s.speed := rfl

@[simp] theorem State.withPorts_shaper (s : State) (x : PerPort PortState) : (s.withPorts x).shaper = s.shaper := rfl

@[simp] theorem State.withPorts_emerg (s : State) (x : PerPort PortState) : (s.withPorts x).emerg = s.emerg := rfl

@[simp] theorem State.withPorts_junction (s : State) (x : PerPort PortState) : (s.withPorts x).junction = s.junction := rfl

@[simp] theorem State.withPorts_wayside (s : State) (x : PerPort PortState) : (s.withPorts x).wayside = s.wayside := rfl

@[simp] theorem State.withPorts_stop (s : State) (x : PerPort PortState) : (s.withPorts x).stop = s.stop := rfl

@[simp] theorem State.withPorts_sound (s : State) (x : PerPort PortState) : (s.withPorts x).sound = s.sound := rfl

@[simp] theorem State.withPorts_consist (s : State) (x : PerPort PortState) : (s.withPorts x).consist = s.consist := rfl

@[simp] theorem State.withPorts_ports (s : State) (x : PerPort PortState) : (s.withPorts x).ports = x := rfl

@[simp] theorem State.withPorts_assembly (s : State) (x : PerPort PortState) : (s.withPorts x).assembly = s.assembly := rfl

@[simp] theorem State.withPorts_vl (s : State) (x : PerPort PortState) : (s.withPorts x).vl = s.vl := rfl

@[simp] theorem State.withPorts_clock (s : State) (x : PerPort PortState) : (s.withPorts x).clock = s.clock := rfl

@[simp] theorem State.withPorts_pending (s : State) (x : PerPort PortState) : (s.withPorts x).pending = s.pending := rfl

/-! ### `State.withAssembly` -/

@[simp] theorem State.withAssembly_pins (s : State) (x : Option (Byte × List Byte)) : (s.withAssembly x).pins = s.pins := rfl

@[simp] theorem State.withAssembly_outputs (s : State) (x : Option (Byte × List Byte)) : (s.withAssembly x).outputs = s.outputs := rfl

@[simp] theorem State.withAssembly_auth (s : State) (x : Option (Byte × List Byte)) : (s.withAssembly x).auth = s.auth := rfl

@[simp] theorem State.withAssembly_speed (s : State) (x : Option (Byte × List Byte)) : (s.withAssembly x).speed = s.speed := rfl

@[simp] theorem State.withAssembly_shaper (s : State) (x : Option (Byte × List Byte)) : (s.withAssembly x).shaper = s.shaper := rfl

@[simp] theorem State.withAssembly_emerg (s : State) (x : Option (Byte × List Byte)) : (s.withAssembly x).emerg = s.emerg := rfl

@[simp] theorem State.withAssembly_junction (s : State) (x : Option (Byte × List Byte)) : (s.withAssembly x).junction = s.junction := rfl

@[simp] theorem State.withAssembly_wayside (s : State) (x : Option (Byte × List Byte)) : (s.withAssembly x).wayside = s.wayside := rfl

@[simp] theorem State.withAssembly_stop (s : State) (x : Option (Byte × List Byte)) : (s.withAssembly x).stop = s.stop := rfl

@[simp] theorem State.withAssembly_sound (s : State) (x : Option (Byte × List Byte)) : (s.withAssembly x).sound = s.sound := rfl

@[simp] theorem State.withAssembly_consist (s : State) (x : Option (Byte × List Byte)) : (s.withAssembly x).consist = s.consist := rfl

@[simp] theorem State.withAssembly_ports (s : State) (x : Option (Byte × List Byte)) : (s.withAssembly x).ports = s.ports := rfl

@[simp] theorem State.withAssembly_assembly (s : State) (x : Option (Byte × List Byte)) : (s.withAssembly x).assembly = x := rfl

@[simp] theorem State.withAssembly_vl (s : State) (x : Option (Byte × List Byte)) : (s.withAssembly x).vl = s.vl := rfl

@[simp] theorem State.withAssembly_clock (s : State) (x : Option (Byte × List Byte)) : (s.withAssembly x).clock = s.clock := rfl

@[simp] theorem State.withAssembly_pending (s : State) (x : Option (Byte × List Byte)) : (s.withAssembly x).pending = s.pending := rfl

/-! ### `State.withVl` -/

@[simp] theorem State.withVl_pins (s : State) (x : VlUnit) : (s.withVl x).pins = s.pins := rfl

@[simp] theorem State.withVl_outputs (s : State) (x : VlUnit) : (s.withVl x).outputs = s.outputs := rfl

@[simp] theorem State.withVl_auth (s : State) (x : VlUnit) : (s.withVl x).auth = s.auth := rfl

@[simp] theorem State.withVl_speed (s : State) (x : VlUnit) : (s.withVl x).speed = s.speed := rfl

@[simp] theorem State.withVl_shaper (s : State) (x : VlUnit) : (s.withVl x).shaper = s.shaper := rfl

@[simp] theorem State.withVl_emerg (s : State) (x : VlUnit) : (s.withVl x).emerg = s.emerg := rfl

@[simp] theorem State.withVl_junction (s : State) (x : VlUnit) : (s.withVl x).junction = s.junction := rfl

@[simp] theorem State.withVl_wayside (s : State) (x : VlUnit) : (s.withVl x).wayside = s.wayside := rfl

@[simp] theorem State.withVl_stop (s : State) (x : VlUnit) : (s.withVl x).stop = s.stop := rfl

@[simp] theorem State.withVl_sound (s : State) (x : VlUnit) : (s.withVl x).sound = s.sound := rfl

@[simp] theorem State.withVl_consist (s : State) (x : VlUnit) : (s.withVl x).consist = s.consist := rfl

@[simp] theorem State.withVl_ports (s : State) (x : VlUnit) : (s.withVl x).ports = s.ports := rfl

@[simp] theorem State.withVl_assembly (s : State) (x : VlUnit) : (s.withVl x).assembly = s.assembly := rfl

@[simp] theorem State.withVl_vl (s : State) (x : VlUnit) : (s.withVl x).vl = x := rfl

@[simp] theorem State.withVl_clock (s : State) (x : VlUnit) : (s.withVl x).clock = s.clock := rfl

@[simp] theorem State.withVl_pending (s : State) (x : VlUnit) : (s.withVl x).pending = s.pending := rfl

/-! ### `State.withClock` -/

@[simp] theorem State.withClock_pins (s : State) (x : Clock) : (s.withClock x).pins = s.pins := rfl

@[simp] theorem State.withClock_outputs (s : State) (x : Clock) : (s.withClock x).outputs = s.outputs := rfl

@[simp] theorem State.withClock_auth (s : State) (x : Clock) : (s.withClock x).auth = s.auth := rfl

@[simp] theorem State.withClock_speed (s : State) (x : Clock) : (s.withClock x).speed = s.speed := rfl

@[simp] theorem State.withClock_shaper (s : State) (x : Clock) : (s.withClock x).shaper = s.shaper := rfl

@[simp] theorem State.withClock_emerg (s : State) (x : Clock) : (s.withClock x).emerg = s.emerg := rfl

@[simp] theorem State.withClock_junction (s : State) (x : Clock) : (s.withClock x).junction = s.junction := rfl

@[simp] theorem State.withClock_wayside (s : State) (x : Clock) : (s.withClock x).wayside = s.wayside := rfl

@[simp] theorem State.withClock_stop (s : State) (x : Clock) : (s.withClock x).stop = s.stop := rfl

@[simp] theorem State.withClock_sound (s : State) (x : Clock) : (s.withClock x).sound = s.sound := rfl

@[simp] theorem State.withClock_consist (s : State) (x : Clock) : (s.withClock x).consist = s.consist := rfl

@[simp] theorem State.withClock_ports (s : State) (x : Clock) : (s.withClock x).ports = s.ports := rfl

@[simp] theorem State.withClock_assembly (s : State) (x : Clock) : (s.withClock x).assembly = s.assembly := rfl

@[simp] theorem State.withClock_vl (s : State) (x : Clock) : (s.withClock x).vl = s.vl := rfl

@[simp] theorem State.withClock_clock (s : State) (x : Clock) : (s.withClock x).clock = x := rfl

@[simp] theorem State.withClock_pending (s : State) (x : Clock) : (s.withClock x).pending = s.pending := rfl

/-! ### `State.withPending` -/

@[simp] theorem State.withPending_pins (s : State) (x : List Instr) : (s.withPending x).pins = s.pins := rfl

@[simp] theorem State.withPending_outputs (s : State) (x : List Instr) : (s.withPending x).outputs = s.outputs := rfl

@[simp] theorem State.withPending_auth (s : State) (x : List Instr) : (s.withPending x).auth = s.auth := rfl

@[simp] theorem State.withPending_speed (s : State) (x : List Instr) : (s.withPending x).speed = s.speed := rfl

@[simp] theorem State.withPending_shaper (s : State) (x : List Instr) : (s.withPending x).shaper = s.shaper := rfl

@[simp] theorem State.withPending_emerg (s : State) (x : List Instr) : (s.withPending x).emerg = s.emerg := rfl

@[simp] theorem State.withPending_junction (s : State) (x : List Instr) : (s.withPending x).junction = s.junction := rfl

@[simp] theorem State.withPending_wayside (s : State) (x : List Instr) : (s.withPending x).wayside = s.wayside := rfl

@[simp] theorem State.withPending_stop (s : State) (x : List Instr) : (s.withPending x).stop = s.stop := rfl

@[simp] theorem State.withPending_sound (s : State) (x : List Instr) : (s.withPending x).sound = s.sound := rfl

@[simp] theorem State.withPending_consist (s : State) (x : List Instr) : (s.withPending x).consist = s.consist := rfl

@[simp] theorem State.withPending_ports (s : State) (x : List Instr) : (s.withPending x).ports = s.ports := rfl

@[simp] theorem State.withPending_assembly (s : State) (x : List Instr) : (s.withPending x).assembly = s.assembly := rfl

@[simp] theorem State.withPending_vl (s : State) (x : List Instr) : (s.withPending x).vl = s.vl := rfl

@[simp] theorem State.withPending_clock (s : State) (x : List Instr) : (s.withPending x).clock = s.clock := rfl

@[simp] theorem State.withPending_pending (s : State) (x : List Instr) : (s.withPending x).pending = x := rfl

/-! ### Reads after writes -/

@[simp] theorem PerPort.get_set_same {α : Type} (v : PerPort α) (p : Port) (x : α) : (v.set p x).get p = x := by
  cases p <;> rfl

@[simp] theorem PerPort.get_set_other {α : Type} (v : PerPort α) (p q : Port) (x : α) (h : q ≠ p) :
    (v.set p x).get q = v.get q := by
  cases p <;> cases q <;> first | rfl | exact absurd rfl h

@[simp] theorem PerEnd.get_set_same {α : Type} (v : PerEnd α) (e : End) (x : α) : (v.set e x).get e = x := by
  cases e <;> rfl

@[simp] theorem PerEnd.get_set_other {α : Type} (v : PerEnd α) (e f : End) (x : α) (h : f ≠ e) :
    (v.set e x).get f = v.get f := by
  cases e <;> cases f <;> first | rfl | exact absurd rfl h

@[simp] theorem PerSpeaker.get_set_same {α : Type} (v : PerSpeaker α) (k : Speaker) (x : α) : (v.set k x).get k = x := by
  cases k <;> rfl

@[simp] theorem PerSpeaker.get_set_other {α : Type} (v : PerSpeaker α) (k l : Speaker) (x : α) (h : l ≠ k) :
    (v.set k x).get l = v.get l := by
  cases k <;> cases l <;> first | rfl | exact absurd rfl h

@[simp] theorem axleGet_axleSet_same {α : Type} (v : PerAxle α) (c : Axle) (x : α) : axleGet (axleSet v c x) c = x := by
  cases c <;> rfl

@[simp] theorem axleGet_axleSet_other {α : Type} (v : PerAxle α) (c d : Axle) (x : α) (h : d ≠ c) :
    axleGet (axleSet v c x) d = axleGet v d := by
  cases c <;> cases d <;> first | rfl | exact absurd rfl h

@[simp] theorem State.port_setPort_same (s : State) (p : Port) (x : PortState) : (s.setPort p x).port p = x := by
  simp [State.port, State.setPort]

@[simp] theorem State.port_setPort_other (s : State) (p q : Port) (x : PortState) (h : q ≠ p) :
    (s.setPort p x).port q = s.port q := by
  simp [State.port, State.setPort, h]

end Sys2Proof.Machine
end

