-- ==== Sys2Proof/Laws/Frame.lean ====
section
/-!
SUPPORT. Frames: for each shared operation one lemma that names every part of the state it can change.
-/

namespace Sys2Proof.Machine

theorem Part.same_refl (s : State) (p : Part) : p.same s s := by
  cases p <;> simp [Part.same]

theorem Part.same_trans {s t u : State} {p : Part} (h : p.same s t) (k : p.same t u) : p.same s u := by
  cases p <;> simp only [Part.same] at h k ⊢ <;> simp_all

theorem Changes.refl (parts : List Part) (s : State) : Changes parts s s := fun p _ => Part.same_refl s p

theorem Changes.mono {a b : List Part} {s t : State} (h : Changes a s t) (sub : ∀ p ∈ a, p ∈ b) : Changes b s t :=
  fun p hp => h p fun hin => hp (sub p hin)

/-- Two changes one after the other. -/
theorem Changes.trans {a b : List Part} {s t u : State} (h : Changes a s t) (k : Changes b t u) :
    Changes (a ++ b) s u := fun p hp =>
  Part.same_trans (h p fun hin => hp (List.mem_append_left b hin)) (k p fun hin => hp (List.mem_append_right a hin))

/-- Two changes within one list of parts. -/
theorem Changes.comp {a : List Part} {s t u : State} (h : Changes a s t) (k : Changes a t u) : Changes a s u :=
  fun p hp => Part.same_trans (h p hp) (k p hp)

/-- One of two states, whichever a condition picks. -/
theorem Changes.ite {a : List Part} {s t u : State} {c : Prop} [Decidable c] (h : Changes a s t) (k : Changes a s u) :
    Changes a s (if c then t else u) := by
  split <;> assumption

/-! ### Flags, events and entries -/

/-- The parts a trip event or a raised flag touches before the event ends. -/
def reported : List Part := [.events, .flags, .owed]

theorem raiseBit_changes (n : Nat) (s : State) : Changes [.flags, .owed] s (raiseBit n s) := by
  unfold raiseBit
  refine Changes.ite (Changes.refl _ _) ?_
  intro p hp
  cases p <;> first | exact absurd (by decide) hp | (repeat' constructor)

theorem raiseFlag_changes (f : NoticeFlag) (s : State) : Changes [.flags, .owed] s (raiseFlag f s) :=
  raiseBit_changes _ s

theorem withEvents_changes (es : List EventEntry) (s : State) :
    Changes [.events] s (s.withVl { s.vl with events := es }) := by
  intro p hp
  cases p <;> first | exact absurd (by decide) hp | (repeat' constructor)

theorem appendEvent_changes (e : TripEvent) (s : State) : Changes reported s (appendEvent e s) := by
  unfold appendEvent
  split
  · exact ((withEvents_changes _ s).trans (raiseFlag_changes _ _)).mono (by decide)
  · exact (((withEvents_changes _ s).trans (raiseFlag_changes _ _)).trans (raiseFlag_changes _ _)).mono (by decide)

theorem setPort_changes (q : Port) (x : PortState) (s : State) : Changes [.port q] s (s.setPort q x) := by
  intro p hp
  cases p with
  | port r =>
    have h : r ≠ q := by
      intro h
      subst h
      exact hp (by simp)
    exact State.port_setPort_other s q r x h
  | _ => repeat' constructor

theorem pushTx_changes (p : Port) (e : TxEntry) (s : State) : Changes [.port p] s (pushTx p e s) :=
  setPort_changes p _ s

theorem deliver_changes (p : Port) (e : TxEntry) (s : State) : Changes [.port p] s (deliver p e s) :=
  Changes.ite (pushTx_changes p e s) (setPort_changes p _ s)

theorem withOwed_changes (b : Bool) (s : State) : Changes [.owed] s ((fun s => s.withVl { s.vl with owed := b }) s) := by
  intro p hp
  cases p <;> first | exact absurd (by decide) hp | (repeat' constructor)

theorem flushNotice_changes (s : State) : Changes [.owed, .port .vl] s (flushNotice s) := by
  unfold flushNotice
  split
  · split
    · exact (withOwed_changes false s).mono (by decide)
    · exact ((withOwed_changes false s).trans (pushTx_changes .vl _ _)).mono (by decide)
  · exact Changes.refl _ _

theorem freshValue_changes (s : State) : Changes [.choices] s ((fun s => s.freshValue.2) s) := by
  intro p hp
  cases p <;> first | exact absurd (by decide) hp | (repeat' constructor)

theorem chooseFrom_changes {α : Type} (a : α) (l : List α) (s : State) : Changes [.choices] s (chooseFrom s a l).2 := by
  cases l
  · exact Changes.refl _ _
  · exact freshValue_changes s

/-! ### The sound unit -/

theorem withChannels_changes (x : PerSpeaker SoundChannel) (h n : Nat) (s : State) : Changes [.channels] s ((fun s => s.withSound { s.sound with channels := x, hornOn := h, joins := n }) s) := by
  intro p hp
  cases p <;> first | exact absurd (by decide) hp | (repeat' constructor)

theorem requestSound_changes (k : Speaker) (src : SoundSource) (n : Fin 16) (held : Bool) (s : State) :
    Changes [.channels] s (requestSound k src n held s) :=
  Changes.ite (Changes.refl _ _) (withChannels_changes _ s.sound.hornOn _ s)

theorem withdrawSound_changes (k : Speaker) (src : SoundSource) (s : State) :
    Changes [.channels] s (withdrawSound k src s) := withChannels_changes _ s.sound.hornOn s.sound.joins s

theorem withdrawEverywhere_changes (src : SoundSource) (s : State) :
    Changes [.channels] s (withdrawEverywhere src s) := withChannels_changes _ s.sound.hornOn s.sound.joins s

theorem changePattern_changes (n : Fin 16) (p : Pattern) (s : State) : Changes [.patterns, .channels] s (changePattern n p s) := by
  intro p hp
  cases p <;> first | exact absurd (by decide) hp | (repeat' constructor)

theorem silenceAll_changes (s : State) : Changes [.channels, .forcedOff] s (silenceAll s) := by
  intro p hp
  cases p <;> first | exact absurd (by decide) hp | (repeat' constructor)

theorem withBellItem_changes (b : Option Bool) (s : State) : Changes [.bellItem] s ((fun s => s.withSound { s.sound with bellItem := b }) s) := by
  intro p hp
  cases p <;> first | exact absurd (by decide) hp | (repeat' constructor)

/-! ### The emergency unit -/

/-- The parts a set source touches. -/
def sourced : List Part := [.latch, .channels, .events, .flags, .owed]

/-- The parts a change of the divisor touches. -/
def derated : List Part := [.ladder, .events, .flags, .owed]

theorem withLatch_changes (w : Word16) (f : Option EmergencySource) (s : State) : Changes [.latch] s ((fun s => s.withEmerg { s.emerg with recorded := w, first := f }) s) := by
  intro p hp
  cases p <;> first | exact absurd (by decide) hp | (repeat' constructor)

theorem withLadder_changes (d : Demands) (n : Nat) (t : Option Nat) (s : State) : Changes [.ladder] s ((fun s => s.withEmerg { s.emerg with demands := d, divisor := n, settle := t }) s) := by
  intro p hp
  cases p <;> first | exact absurd (by decide) hp | (repeat' constructor)

theorem withArmed_changes (b : Bool) (s : State) : Changes [.armed] s ((fun s => s.withEmerg { s.emerg with armed := b }) s) := by
  intro p hp
  cases p <;> first | exact absurd (by decide) hp | (repeat' constructor)

theorem withCommandHold_changes (b : Bool) (s : State) : Changes [.commandHold] s ((fun s => s.withEmerg { s.emerg with commandHold := b }) s) := by
  intro p hp
  cases p <;> first | exact absurd (by decide) hp | (repeat' constructor)

theorem setSource_changes (src : EmergencySource) (s : State) : Changes sourced s (setSource src s) := by
  unfold setSource
  split
  · exact (((((withLatch_changes _ _ s).trans (requestSound_changes _ _ _ _ _)).trans
      (requestSound_changes _ _ _ _ _)).trans (appendEvent_changes _ _)).trans (raiseFlag_changes _ _)).mono (by decide)
  · split
    · exact Changes.refl _ _
    · exact ((withLatch_changes _ s.emerg.first s).trans (appendEvent_changes _ _)).mono (by decide)

theorem changeDivisor_changes (d : Nat) (s : State) : Changes derated s (changeDivisor d s) :=
  (((withLadder_changes s.emerg.demands d s.emerg.settle s).trans (appendEvent_changes _ _)).trans
    (raiseFlag_changes _ _)).mono (by decide)

theorem handDemands_changes (d : Demands) (s : State) : Changes derated s (handDemands d s) := by
  unfold handDemands
  have h := (withLadder_changes d s.emerg.divisor
    (settleAfter s.emerg.demands.target d.target s.emerg.divisor s.emerg.settle) s)
  exact Changes.ite ((h.trans (changeDivisor_changes _ _)).mono (by decide)) (h.mono (by decide))

theorem handIfChanged_changes (d : Demands) (s : State) : Changes derated s (handIfChanged d s) :=
  Changes.ite (Changes.refl _ _) (handDemands_changes d s)

theorem releaseDemand_changes (s : State) : Changes derated s (releaseDemand s) := by
  unfold releaseDemand
  have h := (withLadder_changes s.emerg.demands s.emerg.divisor
    (if s.emerg.demands.target < 8 then some settleTime else none) s)
  exact Changes.ite ((h.trans (changeDivisor_changes _ _)).mono (by decide)) (h.mono (by decide))

theorem stepDown_changes (s : State) : Changes derated s (stepDown s) :=
  ((withLadder_changes s.emerg.demands s.emerg.divisor _ s).trans (changeDivisor_changes _ _)).mono (by decide)

theorem withShaper_changes (x : Shaper) (s : State) : Changes [.shaper] s ((fun s => s.withShaper x) s) := by
  intro p hp
  cases p <;> first | exact absurd (by decide) hp | (repeat' constructor)

theorem rampNext_changes (s : State) : Changes [.shaper] s (rampNext s) := withShaper_changes _ s

theorem releaseLatch_changes (s : State) : Changes (.shaper :: .ladder :: sourced) s (releaseLatch s) :=
  (((((((withLatch_changes 0 none s).trans (withdrawSound_changes _ _ _)).trans (withdrawSound_changes _ _ _)).trans
    (appendEvent_changes _ _)).trans (raiseFlag_changes _ _)).trans (releaseDemand_changes _)).trans
    (rampNext_changes _)).mono (by decide)

/-! ### The vigilance monitor -/

theorem withVigil_changes (v : Vigil) (r : Bool) (w : Option End) (s : State) : Changes [.vigilance] s ((fun s => s.withEmerg { s.emerg with vigil := v, running := r, warnedAt := w }) s) := by
  intro p hp
  cases p <;> first | exact absurd (by decide) hp | (repeat' constructor)

theorem setVigil_changes (v : Vigil) (s : State) : Changes [.vigilance] s (setVigil v s) :=
  withVigil_changes v s.emerg.running s.emerg.warnedAt s

theorem requestWarn_changes (s : State) : Changes [.vigilance, .channels] s (requestWarn s) := by
  unfold requestWarn
  split
  · exact ((withVigil_changes s.emerg.vigil s.emerg.running _ s).trans (requestSound_changes _ _ _ _ _)).mono (by decide)
  · exact Changes.refl _ _

theorem releaseWarn_changes (s : State) : Changes [.vigilance, .channels] s (releaseWarn s) := by
  unfold releaseWarn
  split
  · exact ((withVigil_changes s.emerg.vigil s.emerg.running none s).trans (withdrawSound_changes _ _ _)).mono (by decide)
  · exact Changes.refl _ _

theorem toQuiet_changes (s : State) : Changes [.vigilance, .channels] s (toQuiet s) :=
  ((setVigil_changes _ s).trans (releaseWarn_changes _)).mono (by decide)

theorem stopVigilance_changes (s : State) : Changes [.vigilance, .channels] s (stopVigilance s) :=
  ((withVigil_changes s.emerg.vigil false s.emerg.warnedAt s).trans (toQuiet_changes _)).mono (by decide)

theorem testVigilance_changes (s : State) : Changes [.vigilance, .channels] s (testVigilance s) := by
  unfold testVigilance
  have h := withVigil_changes s.emerg.vigil true s.emerg.warnedAt s
  split
  · refine Changes.ite (Changes.refl _ _) (Changes.ite ((h.trans (toQuiet_changes _)).mono (by decide)) ?_)
    exact ((h.trans (setVigil_changes _ _)).trans (requestWarn_changes _)).mono (by decide)
  · exact Changes.ite (stopVigilance_changes s) (Changes.refl _ _)

theorem enterPenalty_changes (s : State) : Changes (.vigilance :: sourced) s (enterPenalty s) := by
  unfold enterPenalty
  have h (a : VigilanceAction) := (setVigil_changes .penalty s).trans (appendEvent_changes (.vigilancePenalty a) _)
  split
  · exact (((h _).trans (setSource_changes _ _)).trans (releaseWarn_changes _)).mono (by decide)
  · exact (h _).mono (by decide)

theorem vigilanceHold_changes (b : Bool) (s : State) : Changes [.vigilance, .channels] s (vigilanceHold b s) := by
  unfold vigilanceHold
  split
  · split
    · exact ((setVigil_changes _ s).trans (requestWarn_changes _)).mono (by decide)
    · exact toQuiet_changes s
    · exact (setVigil_changes _ s).mono (by decide)
    all_goals exact Changes.refl _ _
  · exact Changes.refl _ _

theorem vigilanceLever_changes (s : State) : Changes [.vigilance, .channels] s (vigilanceLever s) := by
  unfold vigilanceLever
  split
  · split
    · exact (setVigil_changes _ s).mono (by decide)
    · exact toQuiet_changes s
    all_goals exact Changes.refl _ _
  · exact Changes.refl _ _

theorem vigilanceAck_changes (s : State) : Changes [.vigilance, .channels] s (vigilanceAck s) := by
  unfold vigilanceAck
  split
  · split
    · exact (setVigil_changes _ s).mono (by decide)
    · exact toQuiet_changes s
    · exact Changes.refl _ _
    · exact Changes.ite (toQuiet_changes s) (Changes.refl _ _)
  · exact Changes.refl _ _

theorem authorityBegins_changes (e : End) (s : State) : Changes (.vigilance :: sourced) s (authorityBegins e s) := by
  unfold authorityBegins
  have h := (stopVigilance_changes s).trans (testVigilance_changes (stopVigilance s))
  exact Changes.ite ((h.trans (setSource_changes _ _)).mono (by decide)) (h.mono (by decide))

/-! ### The wayside transceiver -/

theorem setRecords_changes (rs : List JunctionRecord) (s : State) : Changes [.table] s (setRecords rs s) := by
  intro p hp
  cases p <;> first | exact absurd (by decide) hp | (repeat' constructor)

theorem updateRecord_changes (j : Nat) (f : JunctionRecord → JunctionRecord) (s : State) :
    Changes [.table] s (updateRecord j f s) := setRecords_changes _ s

theorem tellGrant_changes (t : Telegram) (s : State) : Changes [.table] s (tellGrant t s) := by
  unfold tellGrant
  split
  · exact setRecords_changes _ s
  all_goals exact Changes.refl _ _

/-- Taking the head of a queue keeps the levels, the held slot and the acknowledgement. -/
theorem takeHead_keeps {w w' : Wayside} {src : Source} {v : Nat} {t : Telegram} (h : w.takeHead src v = some (t, w')) :
    w'.levels = w.levels ∧ w'.held = w.held ∧ w'.acked = w.acked := by
  unfold Wayside.takeHead at h
  split at h <;> split at h <;> simp_all <;> obtain ⟨_, rfl⟩ := h <;> simp

theorem movePointers_keeps (w : Wayside) (src : Source) :
    (w.movePointers src).levels = w.levels ∧ (w.movePointers src).held = w.held ∧ (w.movePointers src).acked = w.acked := by
  unfold Wayside.movePointers
  split <;> simp

/-- The transceiver replaced by one with the same levels, held slot and acknowledgement. -/
theorem withQueues_changes (w : Wayside) (s : State)
    (h : w.levels = s.wayside.levels ∧ w.held = s.wayside.held ∧ w.acked = s.wayside.acked) :
    Changes [.queues] s (s.withWayside w) := by
  intro p hp
  cases p with
  | queues => exact absurd (by decide) hp
  | levels => exact h.1
  | heldPriority => exact h.2.1
  | acked => exact h.2.2
  | _ => repeat' constructor

theorem grant_changes (src : Source) (s : State) : Changes [.queues, .table] s (grant src s) := by
  unfold grant
  split
  · exact Changes.refl _ _
  · rename_i t w h
    have k := takeHead_keeps h
    have m := movePointers_keeps w src
    refine ((withQueues_changes _ s ?_).trans (tellGrant_changes t _)).mono (by decide)
    exact ⟨m.1.trans k.1, m.2.1.trans k.2.1, m.2.2.trans k.2.2⟩

theorem arbitrate_changes (s : State) : Changes [.queues, .table] s (arbitrate s) := by
  unfold arbitrate
  refine Changes.ite (Changes.refl _ _) ?_
  split
  · exact grant_changes _ s
  · exact Changes.refl _ _

theorem afterOffer_changes (src : Source) (w : Wayside) (s : State) :
    Changes [.queues, .table] s (afterOffer src w s) := by
  unfold afterOffer
  exact Changes.ite (Changes.refl _ _) (Changes.ite (grant_changes src s) (arbitrate_changes s))

theorem offerJr_changes (e : JrEntry) (s t : State) (h : offerJr e s = some t) : Changes [.queues, .table] s t := by
  unfold offerJr at h
  split at h
  · cases h
  · obtain ⟨q, _, rfl⟩ := Option.map_eq_some_iff.mp h
    exact ((withQueues_changes { s.wayside with jr := q } s ⟨rfl, rfl, rfl⟩).trans
        (afterOffer_changes _ _ _)).mono (by decide)

theorem offerRequest_changes (j : Nat) (leg : Leg) (s : State) :
    Changes [.queues, .table] s (offerRequest j leg s) := by
  unfold offerRequest
  cases h : offerJr (.request j leg) s with
  | none => exact Changes.refl _ _
  | some t => exact offerJr_changes _ s t h

theorem offerQuery_changes (j : Nat) (s : State) : Changes [.queues, .table] s (offerQuery j s) := by
  unfold offerQuery
  split
  · exact Changes.refl _ _
  · split
    · exact ((withQueues_changes { s.wayside with jq := s.wayside.jq ++ [j] } s ⟨rfl, rfl, rfl⟩).trans
        (afterOffer_changes _ _ _)).mono (by decide)
    · exact Changes.refl _ _

theorem offerPriority_changes (r : Priority) (s : State) :
    Changes (.queues :: .table :: reported) s (offerPriority r s) := by
  unfold offerPriority
  split
  · exact Changes.refl _ _
  · split
    · exact (((withQueues_changes { s.wayside with sp := s.wayside.sp ++ [r] } s ⟨rfl, rfl, rfl⟩).trans
        (appendEvent_changes _ _)).trans (afterOffer_changes _ _ _)).mono (by decide)
    · exact (appendEvent_changes _ s).mono (by decide)

theorem offerService_changes (b : List Byte) (s t : State) (h : offerService b s = some t) :
    Changes [.queues, .table] s t := by
  unfold offerService at h
  split at h
  · cases h
  · split at h
    · cases h
      exact ((withQueues_changes { s.wayside with vx := s.wayside.vx ++ [b] } s ⟨rfl, rfl, rfl⟩).trans
        (afterOffer_changes _ _ _)).mono (by decide)
    · cases h

theorem removeRequests_changes (j : Nat) (s : State) : Changes [.queues] s (removeRequests j s) :=
  withQueues_changes _ s ⟨rfl, rfl, rfl⟩

theorem withHeld_changes (r : Option Priority) (s : State) : Changes [.heldPriority] s ((fun s => s.withWayside { s.wayside with held := r }) s) := by
  intro p hp
  cases p <;> first | exact absurd (by decide) hp | (repeat' constructor)

theorem releaseHeldPriority_changes (s : State) :
    Changes (.heldPriority :: .queues :: .table :: reported) s (releaseHeldPriority s) := by
  unfold releaseHeldPriority
  split
  · exact ((withHeld_changes none s).trans (offerPriority_changes _ _)).mono (by decide)
  · exact Changes.refl _ _

theorem dropHeldPriority_changes (s : State) : Changes (.heldPriority :: reported) s (dropHeldPriority s) := by
  unfold dropHeldPriority
  split
  · exact ((withHeld_changes none s).trans (appendEvent_changes _ _)).mono (by decide)
  · exact Changes.refl _ _

theorem holdPriority_changes (r : Priority) (s : State) : Changes (.heldPriority :: reported) s (holdPriority r s) := by
  unfold holdPriority
  split
  · exact (((appendEvent_changes _ s).trans (withHeld_changes _ _)).trans (appendEvent_changes _ _)).mono (by decide)
  · exact ((withHeld_changes _ s).trans (appendEvent_changes _ _)).mono (by decide)

theorem emptyWayside_changes (s : State) : Changes [.queues, .heldPriority] s (emptyWayside s) := by
  intro p hp
  cases p <;> first | exact absurd (by decide) hp | (repeat' constructor)

/-! ### The junction unit -/

/-- The parts a record made, cancelled or passed touches. -/
def tabled : List Part := [.table, .queues, .events, .flags, .owed]

theorem withOverflow_changes (o : Option JunctionContents) (f : Bool) (s : State) : Changes [.table] s ((fun s => s.withJunction { s.junction with overflow := o, tableFull := f }) s) := by
  intro p hp
  cases p <;> first | exact absurd (by decide) hp | (repeat' constructor)

theorem withPendingItems_changes (l : Option Leg) (b : Bool) (s : State) : Changes [.pendingItems] s ((fun s => s.withJunction { s.junction with pendingLeg := l, pendingPermit := b }) s) := by
  intro p hp
  cases p <;> first | exact absurd (by decide) hp | (repeat' constructor)

theorem withPlan_changes (l : List PlanEntry) (s : State) : Changes [.plan] s ((fun s => s.withJunction { s.junction with plan := l }) s) := by
  intro p hp
  cases p <;> first | exact absurd (by decide) hp | (repeat' constructor)

theorem setEnquiry_changes (q : Enquiry) (s : State) : Changes [.enquiry] s (setEnquiry q s) := by
  intro p hp
  cases p <;> first | exact absurd (by decide) hp | (repeat' constructor)

theorem makeRecord_changes (c : JunctionContents) (s : State) : Changes tabled s (makeRecord c s) := by
  unfold makeRecord
  split
  · exact (((setRecords_changes _ s).trans (offerRequest_changes _ _ _)).trans (appendEvent_changes _ _)).mono (by decide)
  · exact ((setRecords_changes _ s).trans (appendEvent_changes _ _)).mono (by decide)

theorem placeJunction_changes (c : JunctionContents) (s : State) : Changes tabled s (placeJunction c s) := by
  unfold placeJunction
  refine Changes.ite (makeRecord_changes c s) ?_
  split
  · exact (withOverflow_changes (some c) s.junction.tableFull s).mono (by decide)
  · exact ((withOverflow_changes s.junction.overflow true s).trans (appendEvent_changes _ _)).mono (by decide)

theorem promoteOverflow_changes (s : State) : Changes tabled s (promoteOverflow s) := by
  unfold promoteOverflow
  split
  · exact ((withOverflow_changes none false s).trans (makeRecord_changes _ _)).mono (by decide)
  · exact (withOverflow_changes s.junction.overflow false s).mono (by decide)

theorem owedCancel_changes (x : JunctionRecord) (s : State) : Changes tabled s (owedCancel x s) := by
  unfold owedCancel
  refine Changes.ite ?_ (Changes.refl _ _)
  split
  · rename_i t h
    exact (offerJr_changes _ s t h).mono (by decide)
  · exact (appendEvent_changes _ s).mono (by decide)

theorem cancelRecord_changes (x : JunctionRecord) (s : State) : Changes tabled s (cancelRecord x s) :=
  (((((removeRequests_changes _ s).trans (owedCancel_changes x _)).trans (setRecords_changes _ _)).trans
    (appendEvent_changes _ _)).trans (promoteOverflow_changes _)).mono (by decide)

theorem cancelAll_changes (l : List JunctionRecord) (s : State) : Changes tabled s (cancelAll l s) := by
  induction l generalizing s with
  | nil => exact Changes.refl _ _
  | cons x xs ih =>
    unfold cancelAll
    split
    · exact (cancelRecord_changes _ s).comp (ih _)
    · exact ih s

/-- The parts a driving-end change touches. -/
def endChanged : List Part := [.heldPriority, .pendingItems, .table, .queues, .events, .flags, .owed]

theorem drivingEndChange_changes (s : State) : Changes endChanged s (drivingEndChange s) :=
  ((((withOverflow_changes none false s).trans (dropHeldPriority_changes _)).trans (cancelAll_changes _ _)).trans
    (withPendingItems_changes none false _)).mono (by decide)

/-- The parts entry to a point touches. -/
def entering : List Part := [.choices, .latch, .channels, .table, .queues, .events, .flags, .owed]

theorem enterPoint_changes (x : JunctionRecord) (s : State) : Changes entering s (enterPoint x s) := by
  unfold enterPoint
  have h := (updateRecord_changes x.junction (JunctionRecord.entered s.speed.odometer) s).trans
    (removeRequests_changes x.junction _)
  exact Changes.ite (h.mono (by decide)) (Changes.ite ((h.trans (appendEvent_changes _ _)).mono (by decide))
    (((h.trans (setSource_changes _ _)).trans (appendEvent_changes _ _)).mono (by decide)))

theorem enterOverflow_changes (c : JunctionContents) (s : State) : Changes entering s (enterOverflow c s) := by
  unfold enterOverflow
  have h := withOverflow_changes none s.junction.tableFull s
  exact Changes.ite ((h.trans (appendEvent_changes _ _)).mono (by decide))
    ((((h.trans (freshValue_changes _)).trans (setSource_changes _ _)).trans (appendEvent_changes _ _)).mono (by decide))

theorem passRecord_changes (x : JunctionRecord) (s : State) : Changes tabled s (passRecord x s) :=
  (((setRecords_changes _ s).trans (appendEvent_changes _ _)).trans (promoteOverflow_changes _)).mono (by decide)

theorem enterReached_changes (l : List JunctionRecord) (s : State) : Changes entering s (enterReached l s) := by
  induction l generalizing s with
  | nil => exact Changes.refl _ _
  | cons x xs ih => exact (Changes.ite (enterPoint_changes x s) (Changes.refl _ _)).comp (ih _)

theorem overflowReached_changes (s : State) : Changes entering s (overflowReached s) := by
  unfold overflowReached
  split
  · exact Changes.ite (enterOverflow_changes _ s) (Changes.refl _ _)
  · exact Changes.refl _ _

theorem passCleared_changes (l : List JunctionRecord) (s : State) : Changes tabled s (passCleared l s) := by
  induction l generalizing s with
  | nil => exact Changes.refl _ _
  | cons x xs ih => exact (Changes.ite (passRecord_changes x s) (Changes.refl _ _)).comp (ih _)

theorem junctionPeriod_changes (s : State) : Changes entering s (junctionPeriod s) :=
  (((enterReached_changes _ s).trans (overflowReached_changes _)).trans (passCleared_changes _ _)).mono (by decide)

theorem appendSkipped_changes (l : List PlanEntry) (s : State) : Changes reported s (appendSkipped l s) := by
  induction l generalizing s with
  | nil => exact Changes.refl _ _
  | cons x xs ih => exact (appendEvent_changes _ s).comp (ih _)

/-- The parts a new junction touches. -/
def planned : List Part := [.plan, .pendingItems, .table, .queues, .events, .flags, .owed]

theorem newJunction_changes (j : Nat) (s : State) : Changes planned s (newJunction j s) := by
  unfold newJunction
  dsimp only
  split
  · exact ((((withPlan_changes _ s).trans (appendSkipped_changes _ _)).trans (withPendingItems_changes none false _)).trans
      (placeJunction_changes _ _)).mono (by decide)
  · exact ((withPendingItems_changes none false s).trans (placeJunction_changes _ _)).mono (by decide)

theorem repeatRequest_changes (x : JunctionRecord) (s : State) : Changes [.table, .queues] s (repeatRequest x s) := by
  unfold repeatRequest
  dsimp only
  split
  · exact ((updateRecord_changes _ _ s).trans (offerRequest_changes _ _ _)).mono (by decide)
  · exact (updateRecord_changes _ _ s).mono (by decide)

theorem requestMarker_changes (j : Nat) (s : State) : Changes planned s (requestMarker j s) := by
  unfold requestMarker
  split
  · split
    all_goals first | exact (repeatRequest_changes _ s).mono (by decide) | exact Changes.refl _ _
  · exact Changes.ite (Changes.refl _ _) (newJunction_changes j s)

theorem entryMarker_changes (j : Nat) (s : State) : Changes entering s (entryMarker j s) := by
  unfold entryMarker
  have h := (appendEvent_changes (.entryUnmatched j) s).mono (b := entering) (by decide)
  split
  · exact Changes.ite (Changes.refl _ _) (enterPoint_changes _ s)
  · split
    · exact Changes.ite (enterOverflow_changes _ s) h
    · exact h

theorem reportEvent_changes (j : Nat) (x y : RecordState) (pos : Position) (lock : Lock) (s : State) :
    Changes reported s (reportEvent j x y pos lock s) := by
  unfold reportEvent
  exact Changes.ite (Changes.refl _ _) (Changes.ite (appendEvent_changes _ s) (Changes.ite (appendEvent_changes _ s)
    (Changes.ite (appendEvent_changes _ s) (Changes.refl _ _))))

theorem judgeRecord_changes (x : JunctionRecord) (pos : Position) (lock : Lock) (s : State) :
    Changes (.table :: reported) s (judgeRecord x pos lock s) :=
  Changes.ite (Changes.refl _ _) (Changes.ite ((updateRecord_changes _ _ s).mono (by decide))
    (((updateRecord_changes _ _ s).trans (reportEvent_changes _ _ _ _ _ _)).mono (by decide)))

theorem offerToSlot_changes (j : Nat) (pos : Position) (lock : Lock) (s : State) :
    Changes [.enquiry] s (offerToSlot j pos lock s) := by
  unfold offerToSlot
  split
  · exact Changes.refl _ _
  all_goals exact Changes.ite (setEnquiry_changes _ s) (Changes.refl _ _)

theorem takeReport_changes (j : Nat) (pos : Position) (lock : Lock) (s : State) :
    Changes (.enquiry :: .table :: reported) s (takeReport j pos lock s) := by
  unfold takeReport
  split
  · exact ((judgeRecord_changes _ _ _ s).trans (offerToSlot_changes _ _ _ _)).mono (by decide)
  · exact (offerToSlot_changes _ _ _ s).mono (by decide)

theorem reRequest_changes (x : JunctionRecord) (s : State) : Changes [.table, .queues] s (reRequest x s) := by
  unfold reRequest
  dsimp only
  split
  · exact ((updateRecord_changes _ _ s).trans (offerQuery_changes _ _)).mono (by decide)
  · exact ((updateRecord_changes _ _ s).trans (offerRequest_changes _ _ _)).mono (by decide)
  · exact (updateRecord_changes _ _ s).mono (by decide)

theorem noReport_changes (x : JunctionRecord) (s : State) : Changes (.table :: reported) s (noReport x s) :=
  ((updateRecord_changes _ _ s).trans (appendEvent_changes _ _)).mono (by decide)

theorem withPointWarn_changes (e : Option End) (s : State) : Changes [.pointWarn] s ((fun s => s.withJunction { s.junction with pointWarn := e }) s) := by
  intro p hp
  cases p <;> first | exact absurd (by decide) hp | (repeat' constructor)

theorem settleWarning_changes (s : State) : Changes [.pointWarn, .channels] s (settleWarning s) := by
  unfold settleWarning
  split
  · exact Changes.refl _ _
  dsimp only
  split <;> split
  · exact (((withdrawSound_changes _ _ s).trans (requestSound_changes _ _ _ _ _)).trans
      (withPointWarn_changes _ _)).mono (by decide)
  · exact ((requestSound_changes _ _ _ _ s).trans (withPointWarn_changes _ _)).mono (by decide)
  · exact ((withdrawSound_changes _ _ s).trans (withPointWarn_changes _ _)).mono (by decide)
  · exact (withPointWarn_changes _ s).mono (by decide)

/-! ### The stop request unit -/

theorem setOwn_changes (o : StopState) (s : State) : Changes [.stopState] s (setOwn o s) := by
  intro p hp
  cases p <;> first | exact absurd (by decide) hp | (repeat' constructor)

theorem withPulses_changes (v : Vector (Option Nat) 8) (s : State) : Changes [.pulses] s ((fun s => s.withStop { s.stop with pulses := v }) s) := by
  intro p hp
  cases p <;> first | exact absurd (by decide) hp | (repeat' constructor)

theorem withMirror_changes (m : Option Mirror) (v : Vector (Option PressClass) 8) (s : State) : Changes [.mirror] s ((fun s => s.withStop { s.stop with mirror := m, forward := v }) s) := by
  intro p hp
  cases p <;> first | exact absurd (by decide) hp | (repeat' constructor)

theorem setLine_changes (n : Fin 32) (l : RequestLine) (s : State) : Changes [.lines] s (setLine n l s) := by
  intro p hp
  cases p <;> first | exact absurd (by decide) hp | (repeat' constructor)

/-- The parts an own press touches. -/
def pressed : List Part := [.stopState, .channels, .pulses, .events, .flags, .owed]

theorem givePulse_changes (d : Fin 8) (s : State) : Changes [.pulses] s (givePulse d s) := withPulses_changes _ s

theorem endPulses_changes (s : State) : Changes [.pulses] s (endPulses s) := withPulses_changes _ s

theorem setAssist_changes (d : Nat) (s : State) : Changes pressed s (setAssist d s) :=
  Changes.ite (Changes.refl _ _) ((((setOwn_changes _ s).trans (requestSound_changes _ _ _ _ _)).trans
    (appendEvent_changes _ _)).mono (by decide))

theorem setAssistFor_changes (c : PressClass) (d : Nat) (s : State) : Changes pressed s (setAssistFor c d s) := by
  cases c
  · exact Changes.refl _ _
  · exact setAssist_changes d s

theorem enterRequested_changes (ds : DoorSet) (d : Nat) (c : PressClass) (s : State) :
    Changes pressed s (enterRequested ds d c s) :=
  (((setOwn_changes _ s).trans (requestSound_changes _ _ _ _ _)).trans (appendEvent_changes _ _)).mono (by decide)

theorem joinDoor_changes (d : Nat) (s : State) : Changes [.stopState] s (joinDoor d s) := setOwn_changes _ s

theorem earlyPress_changes (d : Nat) (c : PressClass) (s : State) : Changes [.stopState] s (earlyPress d c s) :=
  setOwn_changes _ s

theorem pressOwn_changes (d : Fin 8) (c : PressClass) (s : State) : Changes pressed s (pressOwn d c s) := by
  unfold pressOwn
  split
  · exact (enterRequested_changes _ _ _ s).comp (setAssistFor_changes _ _ _)
  · exact ((joinDoor_changes _ s).mono (by decide)).comp (setAssistFor_changes _ _ _)
  · exact Changes.ite ((((joinDoor_changes _ s).trans (givePulse_changes _ _)).mono (by decide)).comp
      (setAssistFor_changes _ _ _)) (Changes.refl _ _)
  · exact (earlyPress_changes _ _ s).mono (by decide)

theorem pressForwarded_changes (d : Fin 8) (c : PressClass) (s : State) : Changes pressed s (pressForwarded d c s) := by
  unfold pressForwarded
  split
  · exact (enterRequested_changes _ _ _ s).comp (setAssistFor_changes _ _ _)
  · exact ((joinDoor_changes _ s).mono (by decide)).comp (setAssistFor_changes _ _ _)
  · exact ((joinDoor_changes _ s).mono (by decide)).comp (setAssistFor_changes _ _ _)
  · exact (earlyPress_changes _ _ s).mono (by decide)

theorem takeForwarded_changes (v : Vector (Option PressClass) 8) (l : List (Fin 8)) (s : State) :
    Changes pressed s (takeForwarded v l s) := by
  induction l generalizing s with
  | nil => exact Changes.refl _ _
  | cons d ds ih =>
    unfold takeForwarded
    split
    · exact (pressForwarded_changes d _ s).comp (ih _)
    · exact ih s

theorem placeForward_changes (d : Fin 8) (c : PressClass) (s : State) : Changes [.mirror] s (placeForward d c s) :=
  withMirror_changes s.stop.mirror _ s

theorem pressRemote_changes (d : Fin 8) (c : PressClass) (s : State) :
    Changes [.mirror, .pulses] s (pressRemote d c s) := by
  unfold pressRemote
  split
  all_goals first
    | exact (placeForward_changes d c s).mono (by decide)
    | exact Changes.ite (((givePulse_changes d s).trans (placeForward_changes d c _)).mono (by decide)) (Changes.refl _ _)

theorem carryAssist_changes (ds : DoorSet) (s : State) : Changes (.choices :: pressed) s (carryAssist ds s) := by
  unfold carryAssist
  split
  · exact (setAssist_changes _ s).mono (by decide)
  · exact ((chooseFrom_changes _ _ s).trans (setAssist_changes _ _)).mono (by decide)

theorem carryEarly_changes (s : State) : Changes (.choices :: pressed) s (carryEarly s) := by
  unfold carryEarly
  have h (o : StopState) (ds : DoorSet) (d : Nat) (c : PressClass) :=
    (setOwn_changes o s).trans (enterRequested_changes ds d c (setOwn o s))
  exact Changes.ite (((h _ _ _ _).trans (carryAssist_changes _ _)).mono (by decide)) ((h _ _ _ _).mono (by decide))

/-- The parts a departure touches. -/
def departed : List Part := [.choices, .stopState, .channels, .pulses, .heldPriority, .queues, .table, .events, .flags, .owed]

theorem completeDeparture_changes (s : State) : Changes departed s (completeDeparture s) := by
  unfold completeDeparture
  have h (o : StopState) := (setOwn_changes o s).trans (releaseHeldPriority_changes (setOwn o s))
  exact Changes.ite (((h _).trans (carryEarly_changes _)).mono (by decide)) ((h _).mono (by decide))

theorem testDeparture_changes (s : State) : Changes departed s (testDeparture s) :=
  Changes.ite (completeDeparture_changes s) (Changes.refl _ _)

theorem withStopParts_changes (o : StopState) (m : Option Mirror) (v : Vector (Option PressClass) 8) (s : State) : Changes [.stopState, .mirror] s ((fun s => s.withStop { s.stop with own := o, mirror := m, forward := v }) s) := by
  intro p hp
  cases p <;> first | exact absurd (by decide) hp | (repeat' constructor)

theorem stopBecomesRemote_changes (s : State) : Changes [.stopState, .mirror, .pulses] s (stopBecomesRemote s) :=
  ((withStopParts_changes _ _ _ s).trans (endPulses_changes _)).mono (by decide)

theorem stopLeavesRemote_changes (s : State) : Changes [.mirror, .pulses] s (stopLeavesRemote s) :=
  ((withMirror_changes none _ s).trans (endPulses_changes _)).mono (by decide)

theorem stopStabled_changes (s : State) : Changes [.stopState, .mirror, .pulses] s (stopStabled s) :=
  ((withStopParts_changes _ none s.stop.forward s).trans (endPulses_changes _)).mono (by decide)

theorem mirrorChimes_changes (a b : Mirror) (s : State) : Changes [.channels] s (mirrorChimes a b s) := by
  unfold mirrorChimes
  have h (n : Fin 16) (u : State) (c : Prop) [Decidable c] :
      Changes [.channels] u (if c then requestSound .chime .mirror n false u else u) :=
    Changes.ite (requestSound_changes _ _ _ _ u) (Changes.refl _ _)
  exact ((h 2 s _).comp (h 3 _ _)).comp (h 4 _ _)

theorem takeMirror_changes (b : StopBlock) (s : State) : Changes [.mirror, .pulses, .channels] s (takeMirror b s) := by
  unfold takeMirror
  have h (m : Mirror) (v : Vector (Option Nat) 8) :=
    (withMirror_changes (some m) s.stop.forward s).trans (withPulses_changes v _)
  dsimp only
  split
  · exact (((h _ _).trans (endPulses_changes _)).trans (mirrorChimes_changes _ _ _)).mono (by decide)
  · exact ((h _ _).trans (mirrorChimes_changes _ _ _)).mono (by decide)

end Sys2Proof.Machine
end

