-- ==== Sys2Proof/Laws/FrameUnits.lean ====
section
/-!
SUPPORT. Frames of the authority record, the consist unit, the speed unit, the demand shaper and the link ports: for each shared
operation one lemma that names every part of the state it can change.
-/

namespace Sys2Proof.Machine

/-! ### The authority record and the consist state -/

/-- The parts a change of the record touches in this part alone. -/
def recorded : List Part :=
  [.record, .vigilance, .channels, .mirror, .pulses, .bellItem, .stopState, .latch, .events, .flags, .owed]

/-- The parts a change of the record or of the consist state touches with all that follows. -/
def authorised : List Part :=
  [.record, .vigilance, .channels, .mirror, .pulses, .bellItem, .stopState, .latch, .events, .flags, .owed, .consist, .exchange,
    .ladder, .heldPriority, .pendingItems, .table, .queues, .port .ca, .port .cb]

theorem setRecord_changes (r : Record) (s : State) : Changes [.record] s (setRecord r s) := by
  intro p hp
  cases p <;> first | exact absurd (by decide) hp | (repeat' constructor)

theorem withExchange_changes (n : Byte) (a : Option (Byte × Bool)) (s : State) : Changes [.exchange] s ((fun s => s.withAuth { s.auth with lastExchange := n, answered := a }) s) := by
  intro p hp
  cases p <;> first | exact absurd (by decide) hp | (repeat' constructor)

theorem withSlots_changes (v : PerEnd Slot) (s : State) : Changes [.slots] s ((fun s => s.withAuth { s.auth with slots := v }) s) := by
  intro p hp
  cases p <;> first | exact absurd (by decide) hp | (repeat' constructor)

theorem withConsist_changes (c : ConsistUnit) (s : State) : Changes [.consist] s ((fun s => s.withConsist c) s) := by
  intro p hp
  cases p <;> first | exact absurd (by decide) hp | (repeat' constructor)

theorem releaseManual_changes (s : State) : Changes [.channels] s (releaseManual s) :=
  (withdrawSound_changes _ _ s).comp (withdrawSound_changes _ _ _)

theorem leaveRecord_changes (r : Record) (s : State) : Changes recorded s (leaveRecord r s) := by
  cases r with
  | active e => exact ((releaseManual_changes s).trans (stopVigilance_changes _)).mono (by decide)
  | dark => exact (withdrawEverywhere_changes _ s).mono (by decide)
  | remote =>
    exact (((stopLeavesRemote_changes s).trans (withdrawSound_changes _ _ _)).trans (withBellItem_changes none _)).mono
      (by decide)
  | _ => exact Changes.refl _ _

theorem enterRecord_changes (r : Record) (s : State) : Changes recorded s (enterRecord r s) := by
  cases r with
  | active e => exact (authorityBegins_changes e s).mono (by decide)
  | remote => exact (stopBecomesRemote_changes s).mono (by decide)
  | _ => exact Changes.refl _ _

theorem changeRecordCore_changes (r : Record) (s : State) : Changes recorded s (changeRecordCore r s) := by
  unfold changeRecordCore
  split
  · exact (setRecord_changes r s).mono (by decide)
  · exact (((((setRecord_changes r s).trans (appendEvent_changes _ _)).mono (by decide)).comp
      (leaveRecord_changes _ _)).comp (enterRecord_changes r _))

theorem withdrawPartner_changes (s : State) : Changes derated s (withdrawPartner s) := handIfChanged_changes _ s

theorem reportConsist_changes (s : State) : Changes reported s (reportConsist s) := appendEvent_changes _ s

theorem recomputeRole_changes (s : State) : Changes (.consist :: derated) s (recomputeRole s) := by
  unfold recomputeRole
  split
  · exact Changes.refl _ _
  · have h (c : ConsistUnit) := (withConsist_changes c s).trans (reportConsist_changes (s.withConsist c))
    dsimp only
    split
    · exact ((h _).trans (withdrawPartner_changes _)).mono (by decide)
    · exact (h _).mono (by decide)

theorem forgetAnswer_changes (s : State) : Changes [.exchange] s (forgetAnswer s) :=
  withExchange_changes s.auth.lastExchange none s

theorem setConsistState_changes (c : ConsistState) (s : State) :
    Changes (.consist :: .exchange :: derated) s (setConsistState c s) := by
  unfold setConsistState
  split
  · exact Changes.refl _ _
  · have h (u : ConsistUnit) := ((withConsist_changes u s).trans (forgetAnswer_changes (s.withConsist u))).trans
      (reportConsist_changes _)
    dsimp only
    split
    · exact ((h _).trans (withdrawPartner_changes _)).mono (by decide)
    · exact (h _).mono (by decide)

theorem answerClaim_changes (e : End) (f : Command → TxEntry) (s : State) :
    Changes [.port .ca, .port .cb] s (answerClaim e f s) := by
  unfold answerClaim
  split
  · cases e
    · exact ((setPort_changes .ca _ s).trans (deliver_changes .ca _ _)).mono (by decide)
    · exact ((setPort_changes .cb _ s).trans (deliver_changes .cb _ _)).mono (by decide)
  · exact Changes.refl _ _

theorem endClaimBy_changes (change : Record → State → State) (h : ∀ r s, Changes authorised s (change r s))
    (i : ClaimIntent) (reason : Reason) (s : State) : Changes authorised s (endClaimBy change i reason s) := by
  unfold endClaimBy
  dsimp only
  refine Changes.comp ?_ ((answerClaim_changes _ _ _).mono (by decide))
  split
  · exact (h _ s).comp ((drivingEndChange_changes _).mono (by decide))
  · exact h _ s

theorem leftCoupled_changes (s : State) : Changes authorised s (leftCoupled s) := by
  have h (r : Record) (t : State) : Changes authorised t (changeRecordCore r t) :=
    (changeRecordCore_changes r t).mono (by decide)
  unfold leftCoupled
  split
  · exact endClaimBy_changes _ h _ _ s
  · exact h _ s
  all_goals exact Changes.refl _ _

theorem moveConsist_changes (c : ConsistState) (s : State) : Changes authorised s (moveConsist c s) := by
  have h := (setConsistState_changes c s).mono (b := authorised) (by decide)
  exact Changes.ite (h.comp (leftCoupled_changes _)) h

theorem reevaluate_changes (s : State) : Changes authorised s (reevaluate s) := by
  unfold reevaluate
  split
  · split
    · exact moveConsist_changes _ s
    · exact Changes.refl _ _
  · exact Changes.refl _ _

theorem changeRecord_changes (r : Record) (s : State) : Changes authorised s (changeRecord r s) := by
  unfold changeRecord
  split
  · exact (setRecord_changes r s).mono (by decide)
  · exact (((changeRecordCore_changes r s).mono (by decide)).comp (reevaluate_changes _)).comp
      ((recomputeRole_changes _).mono (by decide))

theorem thenDrivingEndChange {s t : State} (h : Changes authorised s t) : Changes authorised s (drivingEndChange t) :=
  h.comp ((drivingEndChange_changes t).mono (by decide))

theorem park_changes (e : End) (s : State) : Changes authorised s (park e s) := changeRecord_changes _ s

theorem becomeRemote_changes (s : State) : Changes authorised s (becomeRemote s) :=
  thenDrivingEndChange (changeRecord_changes _ s)

theorem handover_changes (e : End) (s : State) : Changes authorised s (handover e s) :=
  thenDrivingEndChange (changeRecord_changes _ s)

theorem endClaim_changes (i : ClaimIntent) (reason : Reason) (s : State) : Changes authorised s (endClaim i reason s) :=
  endClaimBy_changes _ changeRecord_changes i reason s

theorem grantClaim_changes (i : ClaimIntent) (s : State) : Changes authorised s (grantClaim i s) := by
  unfold grantClaim
  refine Changes.comp ?_ ((answerClaim_changes _ _ _).mono (by decide))
  split
  · exact Changes.ite (changeRecord_changes _ s) (handover_changes _ s)
  · exact changeRecord_changes _ s

theorem keepClaim_changes (e : End) (c : Command) (s : State) : Changes authorised s (keepClaim e c s) := by
  cases e <;> exact (setPort_changes _ _ s).mono (by decide)

theorem beginExchange_changes (e : End) (prev : Previous) (c : Command) (s : State) :
    Changes authorised s (beginExchange e prev c s) :=
  ((keepClaim_changes e c s).comp ((withExchange_changes _ _ _).mono (by decide))).comp (changeRecord_changes _ _)

theorem parkExpires_changes (s : State) : Changes authorised s (parkExpires s) := by
  unfold parkExpires
  split
  · exact thenDrivingEndChange (changeRecord_changes _ s)
  · split
    · exact thenDrivingEndChange ((setRecord_changes _ s).mono (by decide))
    · exact Changes.refl _ _
  all_goals exact Changes.refl _ _

theorem toSingle_changes (s : State) : Changes authorised s (toSingle s) :=
  ((withConsist_changes _ s).mono (by decide)).comp (moveConsist_changes _ _)

/-- The parts a stabling touches. -/
def stabled : List Part := .slots :: .forcedOff :: authorised

theorem enterStabled_changes (n : Nat) (s : State) : Changes stabled s (enterStabled n s) :=
  ((((((changeRecord_changes _ s).trans (withSlots_changes _ _)).trans (stopStabled_changes _)).trans
    (silenceAll_changes _)).trans (emptyWayside_changes _)).trans (toSingle_changes _)).mono (by decide)

theorem wakeUp_changes (src : WakeSource) (s : State) : Changes authorised s (wakeUp src s) := by
  unfold wakeUp
  have h := (changeRecord_changes .dark s).comp ((appendEvent_changes (.woken src) _).mono (by decide))
  exact Changes.ite h (h.comp ((setSource_changes _ _).mono (by decide)))

theorem tryWake_changes (src : WakeSource) (s : State) : Changes authorised s (tryWake src s) := by
  unfold tryWake
  split
  · exact Changes.ite (wakeUp_changes src s) (Changes.refl _ _)
  all_goals exact Changes.refl _ _

/-- The parts a lost cab link touches. -/
def unlinked : List Part := .slots :: authorised

theorem cabLinkLost_changes (e : End) (s : State) : Changes unlinked s (cabLinkLost e s) := by
  unfold cabLinkLost
  have h := (withSlots_changes (s.auth.slots.set e Slot.empty) s).mono (b := unlinked) (by decide)
  dsimp only
  split
  · refine Changes.ite ?_ h
    exact h.comp (((((releaseManual_changes _).trans (vigilanceHold_changes _ _)).trans (setSource_changes _ _)).trans
      (park_changes e _)).mono (by decide))
  · exact Changes.ite (h.comp ((endClaim_changes _ _ _).mono (by decide))) h
  all_goals exact h

theorem keyGoesOff_changes (e : End) (s : State) : Changes authorised s (keyGoesOff e s) := by
  unfold keyGoesOff
  split
  · exact Changes.ite (Changes.ite (park_changes e s)
      ((park_changes e s).comp ((setSource_changes _ _).mono (by decide)))) (Changes.refl _ _)
  · exact Changes.ite (endClaim_changes _ _ s) (Changes.refl _ _)
  all_goals exact Changes.refl _ _

/-! ### The consist unit -/

theorem joinFrame_changes (f : ConsistFrame) (s : State) : Changes authorised s (joinFrame f s) := by
  unfold joinFrame
  have h (c : ConsistUnit) := (withConsist_changes c s).mono (b := authorised) (by decide)
  exact Changes.ite (Changes.ite ((h _).comp (moveConsist_changes _ _)) (h _))
    ((h _).comp ((forgetAnswer_changes _).mono (by decide)))

theorem pairFrame_changes (f : ConsistFrame) (s : State) : Changes authorised s (pairFrame f s) :=
  Changes.ite (moveConsist_changes _ s) (((withConsist_changes _ s).mono (by decide)).comp (moveConsist_changes _ _))

theorem settleConsist_changes (f : ConsistFrame) (s : State) : Changes authorised s (settleConsist f s) := by
  unfold settleConsist
  have h := ((withConsist_changes { s.consist with identity := some (f.vehicle, f.rank), count := 1 } s).mono
    (b := authorised) (by decide)).comp (moveConsist_changes .joining _)
  split
  · exact h
  · exact h
  · exact joinFrame_changes f s
  all_goals exact pairFrame_changes f s

theorem takeAnswer_changes (f : ConsistFrame) (s : State) : Changes authorised s (takeAnswer f s) := by
  unfold takeAnswer
  split
  · exact Changes.ite (Changes.ite (grantClaim_changes _ s) (endClaim_changes _ _ s)) (Changes.refl _ _)
  · exact Changes.refl _ _

theorem rememberAnswer_changes (n : Byte) (b : Bool) (s : State) : Changes [.exchange] s (rememberAnswer n b s) :=
  withExchange_changes s.auth.lastExchange _ s

theorem decideIntent_changes (n : Byte) (r : Nat) (s : State) : Changes authorised s (decideIntent n r s) := by
  unfold decideIntent
  have h (b : Bool) := (rememberAnswer_changes n b s).mono (b := authorised) (by decide)
  refine Changes.ite (h _) ?_
  split
  · exact (h _).comp (becomeRemote_changes _)
  · exact (h _).comp (becomeRemote_changes _)
  · exact h _
  · exact Changes.ite (h _) (((h _).comp (becomeRemote_changes _)).comp ((answerClaim_changes _ _ _).mono (by decide)))
  all_goals exact h _

theorem takeIntent_changes (f : ConsistFrame) (s : State) : Changes authorised s (takeIntent f s) := by
  unfold takeIntent
  split
  · exact (forgetAnswer_changes s).mono (by decide)
  · exact Changes.ite (Changes.refl _ _) (decideIntent_changes _ _ s)

theorem followPartner_changes (claiming : Bool) (f : ConsistFrame) (s : State) :
    Changes authorised s (followPartner claiming f s) := by
  unfold followPartner
  split
  · exact Changes.ite (Changes.refl _ _) (changeRecord_changes _ s)
  · exact Changes.ite (becomeRemote_changes s) (Changes.refl _ _)
  · exact Changes.ite (becomeRemote_changes s) (Changes.refl _ _)
  all_goals exact Changes.refl _ _

theorem recomputeFacing_changes (s : State) : Changes [.consist] s (recomputeFacing s) :=
  withConsist_changes _ s

theorem takeEmergency_changes (f : ConsistFrame) (s : State) : Changes sourced s (takeEmergency f s) :=
  Changes.ite (setSource_changes _ s) (Changes.refl _ _)

theorem withdrawSources_changes (s : State) : Changes [.latch] s (withdrawSources s) :=
  Changes.ite (withLatch_changes _ s.emerg.first s) (Changes.refl _ _)

theorem selfRelease_changes (f : ConsistFrame) (s : State) : Changes (.shaper :: .ladder :: sourced) s (selfRelease f s) :=
  Changes.ite (releaseLatch_changes s) (Changes.refl _ _)

theorem takeDivisor_changes (f : ConsistFrame) (s : State) : Changes derated s (takeDivisor f s) :=
  Changes.ite (handIfChanged_changes _ s) (Changes.refl _ _)

theorem takePresses_changes (f : ConsistFrame) (s : State) : Changes pressed s (takePresses f s) := by
  unfold takePresses
  split
  · split
    · exact takeForwarded_changes _ _ s
    · exact Changes.refl _ _
  · exact Changes.refl _ _

theorem takeStopBlock_changes (f : ConsistFrame) (s : State) :
    Changes [.mirror, .pulses, .channels] s (takeStopBlock f s) := by
  unfold takeStopBlock
  split
  · split
    · exact takeMirror_changes _ s
    · exact Changes.refl _ _
  · exact Changes.refl _ _

theorem takeBell_changes (f : ConsistFrame) (s : State) : Changes [.channels, .bellItem] s (takeBell f s) := by
  unfold takeBell
  split
  · dsimp only
    refine Changes.trans (a := [.channels]) (b := [.bellItem]) ?_ (withBellItem_changes _ _)
    exact Changes.ite (requestSound_changes _ _ _ _ s) (Changes.ite (withdrawSound_changes _ _ s) (Changes.refl _ _))
  · exact Changes.refl _ _

/-- The parts a consist frame touches: those of authority, and the shaper by a self-release (R78, R74). -/
def framed : List Part := .shaper :: authorised

theorem actOnFrame_changes (f : ConsistFrame) (e : End) (s : State) : Changes framed s (actOnFrame f e s) := by
  unfold actOnFrame
  dsimp only
  have h1 := ((withConsist_changes { s.consist with latest := some f, coupledEnd := some e, timer := some partnerTime } s).mono
    (b := authorised) (by decide)).comp (settleConsist_changes f _)
  have h2 := ((h1.comp (takeAnswer_changes f _)).comp (takeIntent_changes f _)).comp
    (followPartner_changes (settleConsist f (storeFrame f e s)).auth.record.claimant.isSome f _) |>.mono
      (b := framed) (fun _ h => List.mem_cons_of_mem _ h)
  have h3 := (h2.comp ((recomputeRole_changes _).mono (by decide))).comp
    ((recomputeFacing_changes _).mono (by decide))
  exact h3.comp (((((((takeEmergency_changes f _).trans (withdrawSources_changes _)).trans (selfRelease_changes f _)).trans
    (takeDivisor_changes f _)).trans (takePresses_changes f _)).trans (takeStopBlock_changes f _)).trans
    (takeBell_changes f _) |>.mono (by decide))

theorem takeConsistFrame_changes (f : ConsistFrame) (e : End) (s : State) :
    Changes framed s (takeConsistFrame f e s) :=
  Changes.ite ((tryWake_changes _ s).mono (fun _ h => List.mem_cons_of_mem _ h)) (Changes.ite (actOnFrame_changes _ e s) (Changes.refl _ _))

theorem partnerLost_changes (s : State) : Changes authorised s (partnerLost s) := by
  unfold partnerLost
  have h1 := (withConsist_changes { s.consist with timer := none } s).mono (b := authorised) (by decide)
  have h2 := h1.comp (moveConsist_changes .severed _)
  have h3 := h2.comp (toSingle_changes _)
  have h4 := h2.comp ((setSource_changes .consist _).mono (by decide))
  dsimp only
  split
  · exact h1.comp (toSingle_changes _)
  · exact Changes.ite h3 h4
  · exact Changes.ite h3 h4
  · exact Changes.ite h3 h4
  all_goals exact Changes.refl _ _

theorem severedPeriod_changes (s : State) : Changes authorised s (severedPeriod s) :=
  Changes.ite (toSingle_changes s) (Changes.refl _ _)

/-! ### The speed unit and the demand shaper -/

theorem withSpeed_changes (x : SpeedUnit) (s : State) : Changes [.speed] s ((fun s => s.withSpeed x) s) := by
  intro p hp
  cases p <;> first | exact absurd (by decide) hp | (repeat' constructor)

theorem foldAxles_changes (f : Axle → State → State) (a : List Part) (h : ∀ c s, Changes a s (f c s)) (l : List Axle)
    (s : State) : Changes a s (l.foldl (fun acc c => f c acc) s) := by
  induction l generalizing s with
  | nil => exact Changes.refl _ _
  | cons c cs ih => exact (h c s).comp (ih _)

theorem reportFault_changes (b : Health) (c : Axle) (s : State) : Changes reported s (reportFault b c s) := by
  unfold reportFault
  split
  · exact appendEvent_changes _ s
  · exact Changes.refl _ _

theorem reportHealthy_changes (b : Health) (c : Axle) (s : State) : Changes reported s (reportHealthy b c s) := by
  unfold reportHealthy
  split
  · exact appendEvent_changes _ s
  · exact Changes.refl _ _

theorem reportHealth_changes (old : PerAxle Health) (s : State) : Changes reported s (reportHealth old s) :=
  (foldAxles_changes (fun c => reportFault (axleGet old c) c) _ (fun c => reportFault_changes _ c) _ s).comp
    (foldAxles_changes (fun c => reportHealthy (axleGet old c) c) _ (fun c => reportHealthy_changes _ c) _ _)

/-- The parts a change of the health of the channels touches. -/
def healed : List Part := [.speed, .ladder, .latch, .channels, .events, .flags, .owed]

theorem handHealth_changes (s : State) : Changes derated s (handHealth s) := handIfChanged_changes _ s

theorem applyHealth_changes (h : PerAxle Health) (s : State) : Changes healed s (applyHealth h s) := by
  unfold applyHealth
  have k := (((withSpeed_changes _ s).trans (reportHealth_changes (healthOf s.speed.axles) (writeHealth h s))).trans
    (handHealth_changes _)).mono (b := healed) (by decide)
  exact Changes.ite (k.comp ((setSource_changes _ _).mono (by decide))) k

theorem endRun_changes (c : Axle) (b : Bool) (h : Health) (s : State) : Changes healed s (endRun c b h s) :=
  Changes.ite (applyHealth_changes _ s) (Changes.refl _ _)

/-- All that the end of a run can do: nothing, or the change of health that stage 3 gives the channel. -/
theorem endRun_cases (c : Axle) (b : Bool) (h : Health) (s : State) :
    endRun c b h s = s ∨ ((axleGet s.speed.axles c).isHealthy = b ∧
      nextHealth s.speed.axles s.speed.vRef c = h ∧ endRun c b h s = changeHealth c h s) := by
  by_cases k : (axleGet s.speed.axles c).isHealthy = b ∧ nextHealth s.speed.axles s.speed.vRef c = h
  · exact .inr ⟨k.1, k.2, if_pos k⟩
  · exact .inl (if_neg k)

/-- The zero test needs a second healthy channel that reads at least 5.0 km/h (R28). -/
theorem zeroMet_other {axles : PerAxle AxleChannel} {c : Axle} (h : zeroMet axles c = true) :
    (axleGet axles c).speed = 0 ∧
      ∃ o, o ≠ c ∧ (axleGet axles o).isHealthy = true ∧ 50 ≤ (axleGet axles o).speed := by
  simp only [zeroMet, Bool.and_eq_true, decide_eq_true_eq, List.any_eq_true] at h
  obtain ⟨zero, o, -, ⟨other, healthy⟩, fast⟩ := h
  exact ⟨zero, o, other, healthy, fast⟩

/-- A healthy channel that stage 3 faults with cause ZERO meets the zero test with a zero run of 19, and its open run does not
end in the same update (R28, R29). -/
theorem nextHealth_zero {axles : PerAxle AxleChannel} {vRef : Nat} {c : Axle} {z o : Nat}
    (h : (axleGet axles c).health = .healthy z o) (k : nextHealth axles vRef c = .faulted .zero 0) :
    zeroMet axles c = true ∧ 19 ≤ z ∧ ((axleGet axles c).closed = true ∨ o < 19) := by
  cases m : zeroMet axles c <;> cases d : (axleGet axles c).closed <;>
    simp only [nextHealth, h, m, d, faultRun, if_true, if_false, Bool.false_eq_true] at k <;>
    (repeat' split at k) <;> cases k <;> simp_all

theorem referenceStage_changes (s : State) : Changes [.speed] s (referenceStage s) := by
  unfold referenceStage
  split <;> exact withSpeed_changes _ s

theorem standstillStage_changes (s : State) : Changes [.speed] s (standstillStage s) :=
  Changes.ite (withSpeed_changes _ s) (withSpeed_changes _ s)

theorem odometerStage_changes (s : State) : Changes [.speed] s (odometerStage s) := by
  unfold odometerStage
  split
  · exact withSpeed_changes _ s
  · exact Changes.refl _ _

/-- The parts a monitor's crossing touches. -/
def crossed : List Part := [.speed, .channels, .events, .flags, .owed]

theorem requestBand_changes (m : Monitor) (s : State) : Changes [.channels] s (requestBand m s) := by
  unfold requestBand
  split
  · exact requestSound_changes _ _ _ _ s
  · exact Changes.refl _ _

theorem evaluateMonitor_changes (i : Fin 4) (s : State) : Changes crossed s (evaluateMonitor i s) := by
  unfold evaluateMonitor
  dsimp only
  have h (x : SpeedUnit) := (withSpeed_changes x s).mono (b := crossed) (by decide)
  split
  · exact (h _).comp ((((raiseFlag_changes (.band i) _).trans (appendEvent_changes _ _)).trans
      (requestBand_changes _ _)).mono (by decide))
  · exact h _

theorem monitorStage_changes (s : State) : Changes crossed s (monitorStage s) :=
  (((evaluateMonitor_changes 0 s).comp (evaluateMonitor_changes 1 _)).comp (evaluateMonitor_changes 2 _)).comp
    (evaluateMonitor_changes 3 _)

theorem speedUpdate_changes (c : PerAxle Bool) (s : State) : Changes healed s (speedUpdate c s) :=
  (((((withSpeed_changes _ s).trans (applyHealth_changes _ (readAxles c s))).trans (referenceStage_changes _)).trans
    (standstillStage_changes _)).trans (odometerStage_changes _)).trans (monitorStage_changes _) |>.mono (by decide)

theorem countHistory_changes (s : State) : Changes derated s (countHistory s) :=
  Changes.ite (handDemands_changes _ s) (Changes.ite (handDemands_changes _ s) (Changes.refl _ _))

/-- The parts a computation touches. -/
def computed : List Part := [.shaper, .ladder, .events, .flags, .owed]

theorem detectSlip_changes (d : Int) (s : State) : Changes computed s (detectSlip d s) :=
  ((withShaper_changes _ s).trans (appendEvent_changes _ _)).mono (by decide)

theorem slipPeriod_changes (d : Int) (s : State) : Changes [.shaper] s (slipPeriod d s) :=
  Changes.ite (Changes.ite (withShaper_changes _ s) (withShaper_changes _ s)) (withShaper_changes _ s)

theorem adhesionStep_changes (s : State) : Changes computed s (adhesionStep s) := by
  unfold adhesionStep
  split
  · exact Changes.ite (detectSlip_changes _ s) (Changes.refl _ _)
  · exact (slipPeriod_changes _ s).mono (by decide)
  · exact Changes.ite (detectSlip_changes _ s)
      (Changes.ite ((withShaper_changes _ s).mono (by decide)) ((withShaper_changes _ s).mono (by decide)))

theorem settleOverspeed_changes (s : State) : Changes computed s (settleOverspeed s) := by
  unfold settleOverspeed
  have h := (withShaper_changes { s.shaper with overspeed := overspeedNow s } s).mono (b := computed) (by decide)
  exact Changes.ite (h.comp ((appendEvent_changes _ _).mono (by decide))) h

theorem computeDemand_changes (s : State) : Changes computed s (computeDemand s) :=
  (settleOverspeed_changes s).comp ((withShaper_changes _ _).mono (by decide))

theorem ageHistory_changes (s : State) : Changes [.shaper] s (ageHistory s) := withShaper_changes _ s

theorem startComputation_changes (s : State) : Changes [.shaper] s (startComputation s) := withShaper_changes _ s

theorem shaperPeriod_changes (s : State) : Changes computed s (shaperPeriod s) := by
  unfold shaperPeriod
  have h := (ageHistory_changes s).mono (b := computed) (by decide)
  have c (t : State) := (countHistory_changes t).mono (b := computed) (by decide)
  exact Changes.ite (h.comp (c _)) ((((h.comp
    ((startComputation_changes _).mono (by decide))).comp (adhesionStep_changes _)).comp (c _)).comp (computeDemand_changes _))

/-! ### The link ports and the end of an event -/

theorem reportLink_changes (p : Port) (b : Bool) (s : State) : Changes reported s (reportLink p b s) :=
  ((appendEvent_changes _ s).trans (raiseFlag_changes _ _)).mono (by decide)

theorem refreshLink_changes (p : Port) (s : State) : Changes (.port p :: reported) s (refreshLink p s) := by
  unfold refreshLink
  have h (x : PortState) := (setPort_changes p x s).mono (b := .port p :: reported) (by simp)
  exact Changes.ite (h _) ((h _).comp ((reportLink_changes _ _ _).mono fun q hq => List.mem_cons_of_mem _ hq))

theorem raiseSet_changes (w : Word16) (s : State) : Changes [.flags, .owed] s (raiseSet w s) := by
  unfold raiseSet
  generalize List.range 15 = l
  induction l generalizing s with
  | nil => exact Changes.refl _ _
  | cons n ns ih => exact (Changes.ite (raiseBit_changes n s) (Changes.refl _ _)).comp (ih _)

theorem popCommand_changes (p : Port) (rest : List Command) (s : State) : Changes [.port p] s (popCommand p rest s) :=
  setPort_changes p _ s

theorem queueHeld_changes (p : Port) (s : State) : Changes [.port p] s (queueHeld p s) := by
  unfold queueHeld
  split
  · exact Changes.ite ((setPort_changes p _ s).comp (pushTx_changes p _ _)) (Changes.refl _ _)
  · exact Changes.refl _ _

theorem driveOutputs_changes (s : State) : Changes [.outputs] s (driveOutputs s) := by
  intro p hp
  cases p <;> first | exact absurd (by decide) hp | (repeat' constructor)

theorem settleHorn_changes (s : State) : Changes [.channels] s (settleHorn s) :=
  Changes.ite (withChannels_changes s.sound.channels 0 s.sound.joins s) (Changes.refl _ _)

/-- What the end of an event can change: the owed notice, VL, the POINT_WARN request and the lines. -/
theorem settle_changes (s : State) : Changes (.owed :: .port .vl :: closing) s (settle s) :=
  ((((settleWarning_changes s).trans (flushNotice_changes _)).trans (settleHorn_changes _)).trans
    (driveOutputs_changes _)).mono (by decide)

end Sys2Proof.Machine
end

