-- ==== Sys2Proof/Laws/PerInstr.lean ====
section
/-!
SUPPORT. The family `Encoded`: what brings each command. A command row is what a command in a FIFO spells; a cyclic frame and a
command frame are what the port reads from their layout; the numbers of the wayside stay in the range of R119 and R122; an event
of the part itself carries nothing that could be ill-formed.
-/

namespace Sys2Proof

/-- The KINDs that are no command frames: the three cyclic kinds the part receives and the kinds it sends (R196). -/
def cyclicOrSent : List Byte := [0x01, 0x02, 0x03, 0x40, 0x41, 0x42, 0x50, 0x51, 0x60]

/-- A 16-bit field is its two bytes, high byte first. -/
theorem word16_bytes (w : Word16) : word16 (hiByte w) (loByte w) = w := by
  have whole : ∀ v : BitVec (8 + 8), v.extractLsb' 8 8 ++ v.extractLsb' 0 8 = v := by
    intro v
    ext i hi
    simp only [BitVec.getElem_append, BitVec.getElem_extractLsb']
    split
    · rw [Nat.zero_add, BitVec.getLsbD_eq_getElem hi]
    · rw [show 8 + (i - 8) = i by omega, BitVec.getLsbD_eq_getElem hi]
  exact whole w

/-- What brings a well-formed command (R119, R122, R196, R202, section 10.10). -/
def Laws.Encoded.Statement (i : Instr) : Prop :=
  WellFormed i = true → match i with
  | .claim p => ∃ c : Machine.Command, Machine.rowOf p c = .claim p
  | .release p => ∃ c : Machine.Command, Machine.rowOf p c = .release p
  | .emergencyReset p => ∃ c : Machine.Command, Machine.rowOf p c = .emergencyReset p
  | .doorRelease p => ∃ c : Machine.Command, Machine.rowOf p c = .doorRelease p
  | .doorClose p => ∃ c : Machine.Command, Machine.rowOf p c = .doorClose p
  | .assistAck p => ∃ c : Machine.Command, Machine.rowOf p c = .assistAck p
  | .selectLeg p => ∃ c : Machine.Command, Machine.rowOf p c = .selectLeg p
  | .cancelLeg p => ∃ c : Machine.Command, Machine.rowOf p c = .cancelLeg p
  | .permit p => ∃ c : Machine.Command, Machine.rowOf p c = .permit p
  | .enquirePoint p => ∃ c : Machine.Command, Machine.rowOf p c = .enquirePoint p
  | .planAppend p => ∃ c : Machine.Command, Machine.rowOf p c = .planAppend p
  | .planClear p => ∃ c : Machine.Command, Machine.rowOf p c = .planClear p
  | .readEvent p => ∃ c : Machine.Command, Machine.rowOf p c = .readEvent p
  | .applyEmergency p => ∃ c : Machine.Command, Machine.rowOf p c = .applyEmergency p
  | .releaseCommandSource p => ∃ c : Machine.Command, Machine.rowOf p c = .releaseCommandSource p
  | .sendTelegram p => ∃ c : Machine.Command, Machine.rowOf p c = .sendTelegram p
  | .configureVehicleNumber p => ∃ c : Machine.Command, Machine.rowOf p c = .configureVehicleNumber p
  | .configureRank p => ∃ c : Machine.Command, Machine.rowOf p c = .configureRank p
  | .configureLength p => ∃ c : Machine.Command, Machine.rowOf p c = .configureLength p
  | .configurePulseLength p => ∃ c : Machine.Command, Machine.rowOf p c = .configurePulseLength p
  | .configureInputMapLine p => ∃ c : Machine.Command, Machine.rowOf p c = .configureInputMapLine p
  | .configurePatternHead p => ∃ c : Machine.Command, Machine.rowOf p c = .configurePatternHead p
  | .configurePatternSteps p => ∃ c : Machine.Command, Machine.rowOf p c = .configurePatternSteps p
  | .configureVigilanceAction p => ∃ c : Machine.Command, Machine.rowOf p c = .configureVigilanceAction p
  | .configureSourceLevel p => ∃ c : Machine.Command, Machine.rowOf p c = .configureSourceLevel p
  | .configureBandMonitor p => ∃ c : Machine.Command, Machine.rowOf p c = .configureBandMonitor p
  | .stable p => ∃ c : Machine.Command, Machine.rowOf p c = .stable p
  | .wake p => ∃ c : Machine.Command, Machine.rowOf p c = .wake p
  | .soundTest p => ∃ c : Machine.Command, Machine.rowOf p c = .soundTest p
  | .clearFlags p => ∃ c : Machine.Command, Machine.rowOf p c = .clearFlags p
  | .setNoticeMask p => ∃ c : Machine.Command, Machine.rowOf p c = .setNoticeMask p
  | .forceFlags p => ∃ c : Machine.Command, Machine.rowOf p c = .forceFlags p
  | .unknownKind p => ∃ c : Machine.Command, Machine.rowOf p c = .unknownKind p
  | .commandArrival p kind tag payload =>
      kind ∉ cyclicOrSent → ∀ e, dispatchFrame p e kind tag payload = .commandArrival p kind tag payload
  | .cabState e lever deadman ack bell horn =>
      ∃ payload, ∀ tag, dispatchFrame (Machine.endPort e) .a 0x01 tag payload = .cabState e lever deadman ack bell horn
  | .vehicleState ceiling priorityClass quiet derate =>
      ∃ payload, ∀ e tag, dispatchFrame .vl e 0x02 tag payload = .vehicleState ceiling priorityClass quiet derate
  | .consistPage coupler tag payload =>
      payload.length ≤ 12 ∧ dispatchFrame .kl coupler 0x03 tag payload = .consistPage coupler tag payload
  | .badFrame p => ∀ e bytes, receiveFrame p e true bytes = .badFrame p
  | .reportTimerExpires junction => (1 ≤ junction ∧ junction ≤ 4095)
  | .reRequestTimerExpires junction => (1 ≤ junction ∧ junction ≤ 4095)
  | .pointReachedByDistance junction => (1 ≤ junction ∧ junction ≤ 4095)
  | .junctionPassed junction => (1 ≤ junction ∧ junction ≤ 4095)
  | .requestMarker junction => (1 ≤ junction ∧ junction ≤ 4095)
  | .entryMarker junction => (1 ≤ junction ∧ junction ≤ 4095)
  | .signalMarker crossing _ => (1 ≤ crossing ∧ crossing ≤ 4095)
  | .markerCheckFailed => ∀ bytes, waysideSound bytes = false → receiveMarker bytes = .markerCheckFailed
  | .pointReport junction _ lock => (1 ≤ junction ∧ junction ≤ 4095) ∧ ∀ v, lock = .lockedFor v → v < 65536
  | .priorityAck crossing vehicle => (1 ≤ crossing ∧ crossing ≤ 4095) ∧ vehicle < 65536
  | .configureUnknownItemType p => ∃ c : Machine.Command, Machine.rowOf p c = .configureUnknownItemType p
  | .frameDiscarded _ _ | .silenceTimerExpires _ | .transmitEntryLeaves _ | .cabDisplayDue _ | .vehicleReportDue
  | .consistFrameDue | .keyOff _ | .keyOn _ | .doorLoopOpens | .doorLoopCloses | .passengerLoopOpens
  | .passengerLoopCloses | .axlePulse _ | .powerOnReset | .lineReset | .periodUpdate _ | .zeroRunFault _
  | .openRunFault _ | .recoveryRunComplete _ | .standstillBegins | .calmRunComplete | .adhesionBackToGrip
  | .slipHistoryEntryExpires | .dwellRunsDown | .parkTimerExpires | .intentTimerExpires | .settleTimerExpires
  | .timeTimerExpires | .graceTimerExpires | .warningTimerExpires | .holdTimerExpires
  | .overflowReachedByDistance | .departureCompletes | .telegramDiscarded _ | .txDone | .samplingTimerExpires _
  | .stopRequestPress _ | .buttonStuck _ | .stuckLineFreed _ | .autoOpenPulseExpires _ | .partnerTimerExpires
  | .soundStepExpires _ | .hornOnTimeLimit | .forcedOffTimerExpires => WellFormed i = true

theorem Laws.Encoded.claim (p : Port) : Laws.Encoded.Statement (.claim p) := fun _ => ⟨⟨0x10, 0, []⟩, rfl⟩

theorem Laws.Encoded.release (p : Port) : Laws.Encoded.Statement (.release p) := fun _ => ⟨⟨0x11, 0, []⟩, rfl⟩

theorem Laws.Encoded.emergencyReset (p : Port) : Laws.Encoded.Statement (.emergencyReset p) :=
  fun _ => ⟨⟨0x12, 0, []⟩, rfl⟩

theorem Laws.Encoded.doorRelease (p : Port) : Laws.Encoded.Statement (.doorRelease p) :=
  fun _ => ⟨⟨0x13, 0, []⟩, rfl⟩

theorem Laws.Encoded.doorClose (p : Port) : Laws.Encoded.Statement (.doorClose p) := fun _ => ⟨⟨0x14, 0, []⟩, rfl⟩

theorem Laws.Encoded.assistAck (p : Port) : Laws.Encoded.Statement (.assistAck p) := fun _ => ⟨⟨0x15, 0, []⟩, rfl⟩

theorem Laws.Encoded.selectLeg (p : Port) : Laws.Encoded.Statement (.selectLeg p) := fun _ => ⟨⟨0x16, 0, []⟩, rfl⟩

theorem Laws.Encoded.cancelLeg (p : Port) : Laws.Encoded.Statement (.cancelLeg p) := fun _ => ⟨⟨0x17, 0, []⟩, rfl⟩

theorem Laws.Encoded.permit (p : Port) : Laws.Encoded.Statement (.permit p) := fun _ => ⟨⟨0x18, 0, []⟩, rfl⟩

theorem Laws.Encoded.enquirePoint (p : Port) : Laws.Encoded.Statement (.enquirePoint p) :=
  fun _ => ⟨⟨0x19, 0, []⟩, rfl⟩

theorem Laws.Encoded.planAppend (p : Port) : Laws.Encoded.Statement (.planAppend p) := fun _ => ⟨⟨0x20, 0, []⟩, rfl⟩

theorem Laws.Encoded.planClear (p : Port) : Laws.Encoded.Statement (.planClear p) := fun _ => ⟨⟨0x21, 0, []⟩, rfl⟩

theorem Laws.Encoded.readEvent (p : Port) : Laws.Encoded.Statement (.readEvent p) := fun _ => ⟨⟨0x22, 0, []⟩, rfl⟩

theorem Laws.Encoded.applyEmergency (p : Port) : Laws.Encoded.Statement (.applyEmergency p) :=
  fun _ => ⟨⟨0x23, 0, []⟩, rfl⟩

theorem Laws.Encoded.releaseCommandSource (p : Port) : Laws.Encoded.Statement (.releaseCommandSource p) :=
  fun _ => ⟨⟨0x24, 0, []⟩, rfl⟩

theorem Laws.Encoded.sendTelegram (p : Port) : Laws.Encoded.Statement (.sendTelegram p) :=
  fun _ => ⟨⟨0x25, 0, []⟩, rfl⟩

theorem Laws.Encoded.configureVehicleNumber (p : Port) : Laws.Encoded.Statement (.configureVehicleNumber p) :=
  fun _ => ⟨⟨0x26, 0, 1 :: List.replicate 2 0⟩, rfl⟩

theorem Laws.Encoded.configureRank (p : Port) : Laws.Encoded.Statement (.configureRank p) :=
  fun _ => ⟨⟨0x26, 0, 2 :: List.replicate 1 0⟩, rfl⟩

theorem Laws.Encoded.configureLength (p : Port) : Laws.Encoded.Statement (.configureLength p) :=
  fun _ => ⟨⟨0x26, 0, 3 :: List.replicate 2 0⟩, rfl⟩

theorem Laws.Encoded.configurePulseLength (p : Port) : Laws.Encoded.Statement (.configurePulseLength p) :=
  fun _ => ⟨⟨0x26, 0, 4 :: List.replicate 2 0⟩, rfl⟩

theorem Laws.Encoded.configureInputMapLine (p : Port) : Laws.Encoded.Statement (.configureInputMapLine p) :=
  fun _ => ⟨⟨0x26, 0, 5 :: List.replicate 3 0⟩, rfl⟩

theorem Laws.Encoded.configurePatternHead (p : Port) : Laws.Encoded.Statement (.configurePatternHead p) :=
  fun _ => ⟨⟨0x26, 0, 6 :: List.replicate 4 0⟩, rfl⟩

theorem Laws.Encoded.configurePatternSteps (p : Port) : Laws.Encoded.Statement (.configurePatternSteps p) :=
  fun _ => ⟨⟨0x26, 0, 7 :: List.replicate 4 0⟩, rfl⟩

theorem Laws.Encoded.configureVigilanceAction (p : Port) : Laws.Encoded.Statement (.configureVigilanceAction p) :=
  fun _ => ⟨⟨0x26, 0, 8 :: List.replicate 1 0⟩, rfl⟩

theorem Laws.Encoded.configureSourceLevel (p : Port) : Laws.Encoded.Statement (.configureSourceLevel p) :=
  fun _ => ⟨⟨0x26, 0, 9 :: List.replicate 2 0⟩, rfl⟩

theorem Laws.Encoded.configureBandMonitor (p : Port) : Laws.Encoded.Statement (.configureBandMonitor p) :=
  fun _ => ⟨⟨0x26, 0, 10 :: List.replicate 5 0⟩, rfl⟩

theorem Laws.Encoded.stable (p : Port) : Laws.Encoded.Statement (.stable p) := fun _ => ⟨⟨0x27, 0, []⟩, rfl⟩

theorem Laws.Encoded.wake (p : Port) : Laws.Encoded.Statement (.wake p) := fun _ => ⟨⟨0x28, 0, []⟩, rfl⟩

theorem Laws.Encoded.soundTest (p : Port) : Laws.Encoded.Statement (.soundTest p) := fun _ => ⟨⟨0x29, 0, []⟩, rfl⟩

theorem Laws.Encoded.clearFlags (p : Port) : Laws.Encoded.Statement (.clearFlags p) := fun _ => ⟨⟨0x2A, 0, []⟩, rfl⟩

theorem Laws.Encoded.setNoticeMask (p : Port) : Laws.Encoded.Statement (.setNoticeMask p) :=
  fun _ => ⟨⟨0x2B, 0, []⟩, rfl⟩

theorem Laws.Encoded.forceFlags (p : Port) : Laws.Encoded.Statement (.forceFlags p) := fun _ => ⟨⟨0x2C, 0, []⟩, rfl⟩

theorem Laws.Encoded.unknownKind (p : Port) : Laws.Encoded.Statement (.unknownKind p) :=
  fun _ => ⟨⟨0xFF, 0, []⟩, rfl⟩

theorem Laws.Encoded.commandArrival (p : Port) (kind tag : Byte) (payload : List Byte) : Laws.Encoded.Statement (.commandArrival p kind tag payload) := fun _ h e => by
  simp [cyclicOrSent] at h
  simp [dispatchFrame, sentKind, h]

theorem Laws.Encoded.cabState (e : End) (lever : Byte) (deadman ack bell horn : Bool) : Laws.Encoded.Statement (.cabState e lever deadman ack bell horn) := fun _ =>
  ⟨[lever, BitVec.ofBool horn ++ BitVec.ofBool bell ++ BitVec.ofBool ack ++ BitVec.ofBool deadman |>.setWidth 8], fun _ => by
    cases e <;> cases deadman <;> cases ack <;> cases bell <;> cases horn <;> rfl⟩

theorem Laws.Encoded.vehicleState (ceiling : Word16) (priorityClass quiet derate : Byte) : Laws.Encoded.Statement (.vehicleState ceiling priorityClass quiet derate) := fun _ =>
  ⟨[hiByte ceiling, loByte ceiling, priorityClass, quiet, derate], fun _ _ => by
    simp [dispatchFrame, vehicleStateFrame, word16_bytes]⟩

theorem Laws.Encoded.consistPage (coupler : End) (tag : Byte) (payload : List Byte) : Laws.Encoded.Statement (.consistPage coupler tag payload) := fun h => ⟨by simpa [WellFormed, payloadOk] using h, rfl⟩

theorem Laws.Encoded.badFrame (p : Port) : Laws.Encoded.Statement (.badFrame p) := fun _ e bytes => by
  unfold receiveFrame
  split <;> simp

theorem Laws.Encoded.frameDiscarded (p : Port) (malformed : Bool) : Laws.Encoded.Statement (.frameDiscarded p malformed) :=
  fun _ => rfl

theorem Laws.Encoded.silenceTimerExpires (p : Port) : Laws.Encoded.Statement (.silenceTimerExpires p) := fun _ => rfl

theorem Laws.Encoded.transmitEntryLeaves (p : Port) : Laws.Encoded.Statement (.transmitEntryLeaves p) := fun _ => rfl

theorem Laws.Encoded.cabDisplayDue (e : End) : Laws.Encoded.Statement (.cabDisplayDue e) := fun _ => rfl

theorem Laws.Encoded.vehicleReportDue : Laws.Encoded.Statement .vehicleReportDue := fun _ => rfl

theorem Laws.Encoded.consistFrameDue : Laws.Encoded.Statement .consistFrameDue := fun _ => rfl

theorem Laws.Encoded.keyOff (e : End) : Laws.Encoded.Statement (.keyOff e) := fun _ => rfl

theorem Laws.Encoded.keyOn (e : End) : Laws.Encoded.Statement (.keyOn e) := fun _ => rfl

theorem Laws.Encoded.doorLoopOpens : Laws.Encoded.Statement .doorLoopOpens := fun _ => rfl

theorem Laws.Encoded.doorLoopCloses : Laws.Encoded.Statement .doorLoopCloses := fun _ => rfl

theorem Laws.Encoded.passengerLoopOpens : Laws.Encoded.Statement .passengerLoopOpens := fun _ => rfl

theorem Laws.Encoded.passengerLoopCloses : Laws.Encoded.Statement .passengerLoopCloses := fun _ => rfl

theorem Laws.Encoded.axlePulse (c : Axle) : Laws.Encoded.Statement (.axlePulse c) := fun _ => rfl

theorem Laws.Encoded.powerOnReset : Laws.Encoded.Statement .powerOnReset := fun _ => rfl

theorem Laws.Encoded.lineReset : Laws.Encoded.Statement .lineReset := fun _ => rfl

theorem Laws.Encoded.periodUpdate (closed : PerAxle Bool) : Laws.Encoded.Statement (.periodUpdate closed) :=
  fun _ => rfl

theorem Laws.Encoded.zeroRunFault (c : Axle) : Laws.Encoded.Statement (.zeroRunFault c) := fun _ => rfl

theorem Laws.Encoded.openRunFault (c : Axle) : Laws.Encoded.Statement (.openRunFault c) := fun _ => rfl

theorem Laws.Encoded.recoveryRunComplete (c : Axle) : Laws.Encoded.Statement (.recoveryRunComplete c) := fun _ => rfl

theorem Laws.Encoded.standstillBegins : Laws.Encoded.Statement .standstillBegins := fun _ => rfl

theorem Laws.Encoded.calmRunComplete : Laws.Encoded.Statement .calmRunComplete := fun _ => rfl

theorem Laws.Encoded.adhesionBackToGrip : Laws.Encoded.Statement .adhesionBackToGrip := fun _ => rfl

theorem Laws.Encoded.slipHistoryEntryExpires : Laws.Encoded.Statement .slipHistoryEntryExpires := fun _ => rfl

theorem Laws.Encoded.dwellRunsDown : Laws.Encoded.Statement .dwellRunsDown := fun _ => rfl

theorem Laws.Encoded.parkTimerExpires : Laws.Encoded.Statement .parkTimerExpires := fun _ => rfl

theorem Laws.Encoded.intentTimerExpires : Laws.Encoded.Statement .intentTimerExpires := fun _ => rfl

theorem Laws.Encoded.settleTimerExpires : Laws.Encoded.Statement .settleTimerExpires := fun _ => rfl

theorem Laws.Encoded.timeTimerExpires : Laws.Encoded.Statement .timeTimerExpires := fun _ => rfl

theorem Laws.Encoded.graceTimerExpires : Laws.Encoded.Statement .graceTimerExpires := fun _ => rfl

theorem Laws.Encoded.warningTimerExpires : Laws.Encoded.Statement .warningTimerExpires := fun _ => rfl

theorem Laws.Encoded.reportTimerExpires (junction : Nat) : Laws.Encoded.Statement (.reportTimerExpires junction) := fun h => by simpa [WellFormed, numberOk] using h

theorem Laws.Encoded.reRequestTimerExpires (junction : Nat) : Laws.Encoded.Statement (.reRequestTimerExpires junction) := fun h => by simpa [WellFormed, numberOk] using h

theorem Laws.Encoded.holdTimerExpires : Laws.Encoded.Statement .holdTimerExpires := fun _ => rfl

theorem Laws.Encoded.pointReachedByDistance (junction : Nat) : Laws.Encoded.Statement (.pointReachedByDistance junction) := fun h => by simpa [WellFormed, numberOk] using h

theorem Laws.Encoded.overflowReachedByDistance : Laws.Encoded.Statement .overflowReachedByDistance := fun _ => rfl

theorem Laws.Encoded.junctionPassed (junction : Nat) : Laws.Encoded.Statement (.junctionPassed junction) := fun h => by simpa [WellFormed, numberOk] using h

theorem Laws.Encoded.departureCompletes : Laws.Encoded.Statement .departureCompletes := fun _ => rfl

theorem Laws.Encoded.requestMarker (junction : Nat) : Laws.Encoded.Statement (.requestMarker junction) := fun h => by simpa [WellFormed, numberOk] using h

theorem Laws.Encoded.entryMarker (junction : Nat) : Laws.Encoded.Statement (.entryMarker junction) := fun h => by simpa [WellFormed, numberOk] using h

theorem Laws.Encoded.signalMarker (crossing : Nat) (nearSide : Bool) : Laws.Encoded.Statement (.signalMarker crossing nearSide) := fun h => by simpa [WellFormed, numberOk] using h

theorem Laws.Encoded.markerCheckFailed : Laws.Encoded.Statement .markerCheckFailed := fun _ bytes h => by simp [receiveMarker, h]

theorem Laws.Encoded.pointReport (junction : Nat) (position : Position) (lock : Lock) : Laws.Encoded.Statement (.pointReport junction position lock) := fun h => by
  cases lock <;> simp_all [WellFormed, numberOk, Lock.ok]

theorem Laws.Encoded.priorityAck (crossing vehicle : Nat) : Laws.Encoded.Statement (.priorityAck crossing vehicle) := fun h => by simpa [WellFormed, numberOk] using h

theorem Laws.Encoded.telegramDiscarded (failed : Bool) : Laws.Encoded.Statement (.telegramDiscarded failed) :=
  fun _ => rfl

theorem Laws.Encoded.txDone : Laws.Encoded.Statement .txDone := fun _ => rfl

theorem Laws.Encoded.samplingTimerExpires (samples : BitVec 32) : Laws.Encoded.Statement (.samplingTimerExpires samples) :=
  fun _ => rfl

theorem Laws.Encoded.stopRequestPress (line : Fin 32) : Laws.Encoded.Statement (.stopRequestPress line) :=
  fun _ => rfl

theorem Laws.Encoded.buttonStuck (line : Fin 32) : Laws.Encoded.Statement (.buttonStuck line) := fun _ => rfl

theorem Laws.Encoded.stuckLineFreed (line : Fin 32) : Laws.Encoded.Statement (.stuckLineFreed line) := fun _ => rfl

theorem Laws.Encoded.autoOpenPulseExpires (door : Fin 8) : Laws.Encoded.Statement (.autoOpenPulseExpires door) :=
  fun _ => rfl

theorem Laws.Encoded.partnerTimerExpires : Laws.Encoded.Statement .partnerTimerExpires := fun _ => rfl

theorem Laws.Encoded.soundStepExpires (k : Speaker) : Laws.Encoded.Statement (.soundStepExpires k) := fun _ => rfl

theorem Laws.Encoded.hornOnTimeLimit : Laws.Encoded.Statement .hornOnTimeLimit := fun _ => rfl

theorem Laws.Encoded.forcedOffTimerExpires : Laws.Encoded.Statement .forcedOffTimerExpires := fun _ => rfl

theorem Laws.Encoded.configureUnknownItemType (p : Port) : Laws.Encoded.Statement (.configureUnknownItemType p) :=
  fun _ => ⟨⟨0x26, 0, 11 :: List.replicate 1 0⟩, rfl⟩

end Sys2Proof
end

