-- ==== Sys2Proof/Laws/Ports.lean ====
section
/-!
SUPPORT. The end of an event and the taking of a command: when the end of an event changes nothing, what it leaves, and
what serving a waiting command amounts to.
-/

namespace Sys2Proof.Machine

/-! ### Reads that a frame keeps -/

theorem warnWanted_same {a : List Part} {s t : State} (h : Changes a s t) (table : Part.table ∉ a)
    (record : Part.record ∉ a) (speed : Part.speed ∉ a) : warnWanted t = warnWanted s := by
  have h1 : _ ∧ _ ∧ _ := h _ table
  have h2 : t.auth.record = s.auth.record := h _ record
  have h3 : t.speed = s.speed := h _ speed
  simp only [warnWanted, warningCondition, State.activeEnd, h1.1, h1.2.1, h2, h3]
  rfl

theorem soundOutputs_same {a : List Part} {s t : State} (h : Changes a s t) (patterns : Part.patterns ∉ a)
    (channels : Part.channels ∉ a) (forced : Part.forcedOff ∉ a) : soundOutputs t = soundOutputs s := by
  have h1 : t.sound.patterns = s.sound.patterns := h _ patterns
  have h2 : _ ∧ _ ∧ _ := h _ channels
  have h3 : t.sound.forcedOff = s.sound.forcedOff := h _ forced
  simp only [soundOutputs, h1, h2.1, h3]

theorem shownStop_same {a : List Part} {s t : State} (h : Changes a s t) (record : Part.record ∉ a)
    (own : Part.stopState ∉ a) (mirror : Part.mirror ∉ a) : t.shownStop = s.shownStop := by
  have h1 : t.auth.record = s.auth.record := h _ record
  have h2 : t.stop.own = s.stop.own := h _ own
  have h3 : _ ∧ _ := h _ mirror
  simp only [State.shownStop, State.isRemote, State.mirrorNow, h1, h2, h3.1]
  rfl

/-- The parts the output lines and the POINT_WARN request do not read. -/
def unread : List Part :=
  [.pins, .exchange, .slots, .shaper, .commandHold, .ladder, .vigilance, .vigilanceSetting, .plan, .pendingItems, .enquiry,
    .queues, .levels, .heldPriority, .acked, .lines, .bellItem, .consist, .port .ca, .port .cb, .port .vl, .port .kl,
    .assembly, .held, .identity, .events, .flags, .owed, .mask, .clock, .choices, .pending]

theorem outputsOf_same {s t : State} (h : Changes unread s t) : outputsOf t = outputsOf s := by
  have h1 : t.emerg.armed = s.emerg.armed := h .armed (by decide)
  have h2 : _ ∧ _ := h .latch (by decide)
  have h3 : t.auth.record = s.auth.record := h .record (by decide)
  have h4 : t.stop.pulses = s.stop.pulses := h .pulses (by decide)
  have h5 := shownStop_same h (by decide) (by decide) (by decide)
  have h6 := soundOutputs_same h (by decide) (by decide) (by decide)
  simp only [outputsOf, State.isStabled, h1, h2.1, h3, h4, h5, h6]

/-! ### What the end of an event leaves -/

/-- Nothing is left to do at the end of an event, condition by condition. -/
structure Rests (s : State) : Prop where
  warn : warnWanted s = s.junction.pointWarn
  notice : (s.vl.owed && txRoom .vl s) = false
  horn : (soundOutputs s).horn = .off → s.sound.hornOn = 0
  outputs : s.outputs = outputsOf s

theorem settleWarning_rests (s : State) : warnWanted (settleWarning s) = (settleWarning s).junction.pointWarn := by
  rw [warnWanted_same (settleWarning_changes s) (by decide) (by decide) (by decide)]
  unfold settleWarning
  split
  · assumption
  · rfl

theorem flushNotice_rests (s : State) : ((flushNotice s).vl.owed && txRoom .vl (flushNotice s)) = false := by
  unfold flushNotice
  by_cases h : (s.vl.owed && txRoom .vl s) = true
  · simp only [h, if_true]
    split <;> simp [pushTx, State.setPort]
  · simp only [h]
    simpa using h

/-- What the end of an event leaves. -/
theorem settle_rests (s : State) : Rests (settle s) where
  warn := by
    have h := (flushNotice_changes (settleWarning s)).trans
      ((settleHorn_changes _).trans (driveOutputs_changes (settleHorn (flushNotice (settleWarning s)))))
    have k : (settle s).junction.pointWarn = (settleWarning s).junction.pointWarn := h .pointWarn (by decide)
    rw [k, ← settleWarning_rests]
    exact warnWanted_same h (by decide) (by decide) (by decide)
  notice := by
    have h := (settleHorn_changes (flushNotice (settleWarning s))).trans (driveOutputs_changes _)
    have k1 : (settle s).vl.owed = (flushNotice (settleWarning s)).vl.owed := h .owed (by decide)
    have k2 : (settle s).port .vl = (flushNotice (settleWarning s)).port .vl := h (.port .vl) (by decide)
    have k := flushNotice_rests (settleWarning s)
    simpa only [txRoom, k1, k2] using k
  horn := by
    intro h
    have k : soundOutputs (settle s) = soundOutputs (settleHorn (flushNotice (settleWarning s))) := rfl
    rw [k] at h
    show (settleHorn (flushNotice (settleWarning s))).sound.hornOn = 0
    generalize flushNotice (settleWarning s) = u at h ⊢
    unfold settleHorn at h ⊢
    split
    · rfl
    · rename_i hne
      rw [if_neg hne] at h
      exact absurd h hne
  outputs := rfl

/-- Where every condition holds, the end of an event changes nothing. -/
theorem Rests.settled {s : State} (h : Rests s) : Settled s := by
  have h1 : settleWarning s = s := if_pos h.warn
  have h2 : flushNotice s = s := by
    unfold flushNotice
    rw [if_neg (by simp [h.notice])]
  have h3 : settleHorn s = s := by
    unfold settleHorn
    split
    · rename_i hoff
      have := h.horn hoff
      cases s with
      | mk a b c d e f g i j k l m n o p q =>
        cases k
        simp_all [State.withSound]
    · rfl
  have h4 : driveOutputs s = s := by
    show s.withOutputs (outputsOf s) = s
    rw [← h.outputs]
    rfl
  show driveOutputs (settleHorn (flushNotice (settleWarning s))) = s
  rw [h1, h2, h3, h4]

theorem Settled.rests {s : State} (h : Settled s) : Rests s := by
  have := settle_rests s
  rwa [show settle s = s from h] at this

theorem settle_settled (s : State) : Settled (settle s) := (settle_rests s).settled

/-- A settled state in which only parts that nothing reads changed stays settled where no NOTICE is owed with room for it. -/
theorem Settled.of_unread {s t : State} (hs : Settled s) (h : Changes unread s t)
    (notice : (t.vl.owed && txRoom .vl t) = false) : Settled t := by
  have r := hs.rests
  refine Rests.settled ⟨?_, notice, ?_, ?_⟩
  · have k : t.junction.pointWarn = s.junction.pointWarn := h .pointWarn (by decide)
    rw [warnWanted_same h (by decide) (by decide) (by decide), k]
    exact r.warn
  · have k : _ ∧ t.sound.hornOn = s.sound.hornOn ∧ _ := h .channels (by decide)
    rw [soundOutputs_same h (by decide) (by decide) (by decide), k.2.1]
    exact r.horn
  · have k : t.outputs = s.outputs := h .outputs (by decide)
    rw [outputsOf_same h, k]
    exact r.outputs

/-! ### Taking a command -/

theorem Offered.cons {p : Port} {c : Command} {s : State} (h : Offered p c s) :
    (s.port p).commands = c :: (s.port p).commands.tail := by
  have := h.head
  cases hc : (s.port p).commands with
  | nil => simp [hc] at this
  | cons d ds => simp_all

theorem Offered.takes {p : Port} {c : Command} {s : State} (h : Offered p c s) : takes p s = true := by
  unfold Machine.takes
  rw [h.cons, h.unanswered, h.heldAnswer]
  rfl

/-- Serving the command offered at a port. -/
theorem serve_offered {p : Port} {c : Command} {s : State} (h : Offered p c s) (ofRow : Command → Bool)
    (owner : Command → State → Reply × State) (row : ofRow c = true) :
    serve p ofRow owner s = decideCommand p c owner (popCommand p (s.port p).commands.tail s) := by
  have hc := h.cons
  unfold serve
  rw [if_pos h.takes]
  split
  · rename_i hnil
    simp [hnil] at hc
  · rename_i d rest hcons
    rw [hcons] at hc
    have hd : d = c := (List.cons.inj hc).1
    rw [hd, if_pos row, hcons]
    rfl

@[simp] theorem popCommand_port (p : Port) (rest : List Command) (s : State) :
    (popCommand p rest s).port p = { s.port p with commands := rest } := by
  simp [popCommand]

/-- Room for an entry in the transmit FIFO. -/
theorem deliver_room {p : Port} {e : TxEntry} {s : State} (h : (s.port p).transmit.length < 8) :
    deliver p e s = pushTx p e s := by
  simp [deliver, txRoom, fifoPlaces, h]

@[simp] theorem pushTx_port (p : Port) (e : TxEntry) (s : State) : (pushTx p e s).port p = (s.port p).withEntry e := by
  simp [pushTx, PortState.withEntry]

/-! ### From an effect to a statement about a row -/

/-- The NOTICE the end of an event queues, or none. -/
theorem flushNotice_port (s : State) :
    (flushNotice s).port .vl = s.port .vl ∨ (flushNotice s).port .vl = (s.port .vl).withEntry (.notice s.vl.flags) := by
  unfold flushNotice
  split
  · split
    · exact Or.inl rfl
    · exact Or.inr (pushTx_port .vl _ _)
  · exact Or.inl rfl

/-- Where no NOTICE is owed with room for it, flushing changes nothing. -/
theorem flushNotice_none {s : State} (h : (s.vl.owed && txRoom .vl s) = false) : flushNotice s = s := by
  unfold flushNotice
  rw [if_neg (by simp [h])]

/-- The end of an event with no NOTICE to queue. -/
theorem settle_noNotice {s : State} (h : (s.vl.owed && txRoom .vl s) = false) : Changes closing s (settle s) := by
  have k1 := settleWarning_changes s
  have k2 : (settleWarning s).vl.owed = s.vl.owed := k1 .owed (by decide)
  have k3 : (settleWarning s).port .vl = s.port .vl := k1 (.port .vl) (by decide)
  unfold settle
  rw [flushNotice_none (s := settleWarning s) (by simpa only [txRoom, k2, k3] using h)]
  exact ((k1.trans (settleHorn_changes _)).trans (driveOutputs_changes _)).mono (by decide)

theorem txRoom_false_push {p : Port} {e : TxEntry} {s : State} (h : (s.vl.owed && txRoom .vl s) = false) :
    ((pushTx p e s).vl.owed && txRoom .vl (pushTx p e s)) = false := by
  have k : (pushTx p e s).vl.owed = s.vl.owed := rfl
  rw [k]
  cases ho : s.vl.owed
  · rfl
  · by_cases hp : p = .vl
    · subst hp
      simp_all [txRoom, PortState.withEntry]
      omega
    · have hq : (pushTx p e s).port .vl = s.port .vl :=
        State.port_setPort_other s p .vl _ (fun h => hp h.symm)
      simp_all [txRoom]

/-- A row that takes a command: from the state `u` its owner leaves, the NOTICE and the answer follow and the event ends. -/
theorem Takes.of_reply {p : Port} {c : Command} {i : Instr} {s : State} {answer : TxEntry} {parts : List Part}
    {effect : State → Prop} (u : State)
    (run : Offered p c s → exec i s = done (deliver p answer (flushNotice u)))
    (port : u.port p = { s.port p with commands := (s.port p).commands.tail })
    (vl : p ≠ .vl → u.port .vl = s.port .vl)
    (changes : Changes (.port p :: parts) s u) (ends : ∀ q ∈ Part.owed :: .port .vl :: closing, q ∈ Part.port p :: parts)
    (effects : ∀ t, Changes (.port p :: .owed :: .port .vl :: closing) u t → effect t) :
    Takes p c i s answer parts effect := by
  intro offered _
  have room : ((flushNotice u).port p).transmit.length < 8 := by
    have hr := offered.room
    by_cases hp : p = .vl
    · subst hp
      rcases flushNotice_port u with h | h <;> rw [h, port] <;> simp [PortState.withEntry] <;> omega
    · rw [(flushNotice_changes u) (.port p) (by simpa using hp), port]
      show (s.port p).transmit.length < 8
      omega
  have run' := run offered
  rw [deliver_room room] at run'
  refine ⟨_, run', ?_⟩
  have rest := txRoom_false_push (p := p) (e := answer) (flushNotice_rests u)
  have c1 : Changes closing (pushTx p answer (flushNotice u)) (settle (pushTx p answer (flushNotice u))) :=
    settle_noNotice rest
  have c0 := (flushNotice_changes u).trans (pushTx_changes p answer (flushNotice u))
  have cu : Changes (.port p :: .owed :: .port .vl :: closing) u (settle (pushTx p answer (flushNotice u))) :=
    (c0.trans c1).mono (by intro q; simp [closing]; tauto)
  have hflags : (settle (pushTx p answer (flushNotice u))).vl.flags = u.vl.flags := cu .flags (by simp [closing])
  have hport : (settle (pushTx p answer (flushNotice u))).port p = ((flushNotice u).port p).withEntry answer := by
    rw [c1 (.port p) (by simp [closing]), pushTx_port]
  refine ⟨⟨?_, ?_, ?_, ?_⟩, ?_, effects _ cu⟩
  · rw [hport]
    by_cases hp : p = .vl
    · subst hp
      rcases flushNotice_port u with h | h <;> rw [h, port] <;> rfl
    · rw [(flushNotice_changes u) (.port p) (by simpa using hp), port]
      rfl
  · rw [hport, hflags]
    by_cases hp : p = .vl
    · subst hp
      rcases flushNotice_port u with h | h <;> rw [h, port]
      · exact Or.inl rfl
      · exact Or.inr ⟨rfl, by simp [PortState.withEntry]⟩
    · rw [(flushNotice_changes u) (.port p) (by simpa using hp), port]
      exact Or.inl rfl
  · rw [hport]
    by_cases hp : p = .vl
    · subst hp
      rcases flushNotice_port u with h | h <;> rw [h, port] <;> exact ⟨rfl, rfl, rfl, rfl, rfl, rfl⟩
    · rw [(flushNotice_changes u) (.port p) (by simpa using hp), port]
      exact ⟨rfl, rfl, rfl, rfl, rfl, rfl⟩
  · intro hp
    have h1 : (settle (pushTx p answer (flushNotice u))).port .vl = (flushNotice u).port .vl := by
      rw [c1 (.port .vl) (by simp [closing]), (pushTx_changes p answer _) (.port .vl) (by simpa using fun h => hp h.symm)]
    unfold NoticeOnly
    rw [h1, hflags, ← vl hp]
    exact flushNotice_port u
  · exact (changes.comp ((cu.mono (b := .port p :: parts) (by
      intro q hq
      rcases List.mem_cons.mp hq with rfl | hq
      · exact List.mem_cons_self
      · exact ends q hq))))

/-- A row that takes a command and touches only parts that the end of an event does not read. -/
theorem Takes.of_quiet {p : Port} {c : Command} {i : Instr} {s : State} {answer : TxEntry} {parts : List Part}
    {effect : State → Prop} (u : State)
    (run : Offered p c s → exec i s = done (deliver p answer (flushNotice u)))
    (port : u.port p = { s.port p with commands := (s.port p).commands.tail })
    (changes : Changes (.port p :: parts) s u) (quiet : ∀ q ∈ parts, q ∈ unread)
    (owed : Part.owed ∉ parts) (vl : Part.port .vl ∉ parts)
    (effects : ∀ t, Changes [.port p] u t → effect t) :
    Takes p c i s answer parts effect := by
  intro offered settled
  have hr := offered.room
  have hvl : p ≠ .vl → u.port .vl = s.port .vl := fun hp =>
    changes (.port .vl) (by simpa [vl] using fun h => hp h.symm)
  have howed : u.vl.owed = s.vl.owed := changes .owed (by simpa using owed)
  have hroom : txRoom .vl u = txRoom .vl s := by
    by_cases hp : p = .vl
    · subst hp
      simp [txRoom, port]
    · simp [txRoom, hvl hp]
  have none : (u.vl.owed && txRoom .vl u) = false := by rw [howed, hroom]; exact settled.rests.notice
  have hflush := flushNotice_none none
  have room : (u.port p).transmit.length < 8 := by
    rw [port]
    show (s.port p).transmit.length < 8
    omega
  have run' := run offered
  rw [hflush, deliver_room room] at run'
  have hu : Changes [.port p] u (pushTx p answer u) := pushTx_changes p answer u
  have hsub : ∀ q ∈ Part.port p :: parts, q ∈ unread := by
    intro q hq
    rcases List.mem_cons.mp hq with rfl | hq
    · cases p <;> decide
    · exact quiet q hq
  have hs : Changes (.port p :: parts) s (pushTx p answer u) := changes.comp (hu.mono (by simp))
  have hset : settle (pushTx p answer u) = pushTx p answer u :=
    settled.of_unread (hs.mono hsub) (txRoom_false_push none)
  refine ⟨pushTx p answer u, by rw [run']; exact congrArg Host.Outcome.next hset, ⟨?_, ?_, ?_, ?_⟩, hs, effects _ hu⟩
  · rw [pushTx_port, port]
    rfl
  · rw [pushTx_port, port]
    exact Or.inl rfl
  · rw [pushTx_port, port]
    exact ⟨rfl, rfl, rfl, rfl, rfl, rfl⟩
  · intro hp
    refine Or.inl ?_
    rw [hu (.port .vl) (by simpa using fun h => hp h.symm), hvl hp]

/-- What a waiting command runs as, where its port lets it through and its owner answers. -/
theorem serve_reply {p : Port} {c : Command} {s : State} {ofRow : Command → Bool} {owner : Command → State → Reply × State}
    {r : Reply × State} (row : ofRow c = true) (port : portRefusal p c = none)
    (stabled : s.isStabled = false ∨ servedStabled c.kind = true)
    (reply : owner c (popCommand p (s.port p).commands.tail s) = r) (offered : Offered p c s) :
    serve p ofRow owner s = giveReply p c r := by
  rw [serve_offered offered ofRow owner row]
  unfold decideCommand
  rw [port]
  have h : ownerReply c owner (popCommand p (s.port p).commands.tail s) = r := by
    unfold ownerReply
    rw [← reply]
    have k : (popCommand p (s.port p).commands.tail s).isStabled = s.isStabled := rfl
    rw [k]
    rcases stabled with h | h <;> simp [h]
  rw [h]

/-- An event that is no command, from the state `u` it leaves before it ends. -/
theorem Happens.of_effect {i : Instr} {s : State} {parts : List Part} {effect : State → Prop} (u : State)
    (run : exec i s = done u) (vl : u.port .vl = s.port .vl) (changes : Changes parts s u)
    (ends : ∀ q ∈ Part.owed :: .port .vl :: closing, q ∈ parts)
    (effects : ∀ t, Changes (.owed :: .port .vl :: closing) u t → effect t) : Happens i s parts effect := by
  intro _
  refine ⟨settle u, run, ?_, changes.comp ((settle_changes u).mono ends), effects _ (settle_changes u)⟩
  have h1 := settleWarning_changes u
  have h2 := (settleHorn_changes (flushNotice (settleWarning u))).trans (driveOutputs_changes _)
  have k1 : (settle u).port .vl = (flushNotice (settleWarning u)).port .vl := h2 (.port .vl) (by decide)
  have k2 : (settleWarning u).port .vl = u.port .vl := h1 (.port .vl) (by decide)
  have k3 : (settle u).vl.flags = u.vl.flags := settle_changes u .flags (by decide)
  have k4 : (settleWarning u).vl.flags = u.vl.flags := h1 .flags (by decide)
  have h := flushNotice_port (settleWarning u)
  rw [k2, k4, vl] at h
  unfold NoticeOnly
  rw [k1, k3]
  exact h

/-- An event that touches only parts that the end of an event does not read. -/
theorem Happens.of_quiet {i : Instr} {s : State} {parts : List Part} {effect : State → Prop} (u : State)
    (run : exec i s = done u) (changes : Changes parts s u) (quiet : ∀ q ∈ parts, q ∈ unread)
    (owed : Part.owed ∉ parts) (vl : Part.port .vl ∉ parts) (effects : effect u) : Happens i s parts effect := by
  intro settled
  have h1 : u.vl.owed = s.vl.owed := changes .owed owed
  have h2 : u.port .vl = s.port .vl := changes (.port .vl) vl
  have hu : settle u = u := settled.of_unread (changes.mono quiet) (by
    have := settled.rests.notice
    simpa only [txRoom, h1, h2] using this)
  exact ⟨u, by rw [run]; exact congrArg Host.Outcome.next hu, Or.inl h2, changes, effects⟩

end Sys2Proof.Machine
end

