-- ==== Sys2Proof/Tests/Slice0.lean ====
section
/-!
SUPPORT. Tests. First the checks of `WellFormed`, the byte layouts and the spec's worked cases, expected values from the spec's
text. Then, for every statement of the obligations that has hypotheses, a named theorem `witness_<Name>` with concrete states and
operands that meet the hypotheses of each of its clauses together.
-/

open Sys2Proof Sys2Proof.Machine

namespace Sys2Proof.Tests

set_option Elab.async false

/-! ### Small states -/

/-- A console with a lever and a deadman hold, FRESH. -/
def console (lever : Lever) (deadman : Bool) : Slot := ⟨lever, deadman, false, false, false, true⟩

/-- A part at standstill, keys on, loops closed, links UP, the brake line armed. -/
def base : State := { State.reset with
  pins := { Pins.initial with key := ⟨true, true⟩ }
  auth := ⟨.dark, 0, none, ⟨console (.number (-50)) true, console (.number 0) true⟩⟩
  speed := { State.reset.speed with standstill := true, lowRun := 25 }
  emerg := { State.reset.emerg with armed := true }
  ports := ⟨⟨true, some 100, [], none, none, [], 0, 0, 50⟩, ⟨true, some 100, [], none, none, [], 0, 0, 50⟩,
    ⟨true, some 100, [], none, none, [], 0, 0, 100⟩, ⟨true, some 100, [], none, none, [], 0, 0, 20⟩⟩ }

/-- The record replaced. -/
def auth (r : Record) (s : State) : State := s.withAuth { s.auth with record := r }

/-- A cab slot replaced. -/
def cab (e : End) (x : Slot) (s : State) : State := s.withAuth { s.auth with slots := s.auth.slots.set e x }

/-- A command at the head of a port's FIFO. -/
def asks (p : Port) (c : Command) (s : State) : State := s.setPort p { s.port p with commands := [c] }

/-- A port changed. -/
def port (p : Port) (f : PortState → PortState) (s : State) : State := s.setPort p (f (s.port p))

/-- The input lines changed. -/
def pins (f : Pins → Pins) (s : State) : State := s.withPins (f s.pins)

/-- The speed unit changed. -/
def speed (f : SpeedUnit → SpeedUnit) (s : State) : State := s.withSpeed (f s.speed)

/-- Moving at a speed. -/
def fast (v : Nat) (s : State) : State := speed (fun x => { x with standstill := false, lowRun := 0, vRef := v }) s

/-- The shaper changed. -/
def shape (f : Shaper → Shaper) (s : State) : State := s.withShaper (f s.shaper)

/-- The emergency unit changed. -/
def emerg (f : EmergencyUnit → EmergencyUnit) (s : State) : State := s.withEmerg (f s.emerg)

/-- The latch holding one source. -/
def latched (src : EmergencySource) (s : State) : State :=
  emerg (fun x => { x with recorded := 1 <<< src.bit, first := some src }) s

/-- The junction unit changed. -/
def junc (f : JunctionUnit → JunctionUnit) (s : State) : State := s.withJunction (f s.junction)

/-- The wayside transceiver changed. -/
def way (f : Wayside → Wayside) (s : State) : State := s.withWayside (f s.wayside)

/-- The radio sending. -/
def busy (s : State) : State := way (fun x => { x with sending := some ⟨.statusQuery 1 1, .jq, 3⟩ }) s

/-- The stop request unit changed. -/
def stop (f : StopUnit → StopUnit) (s : State) : State := s.withStop (f s.stop)

/-- The own stop state. -/
def doors (x : StopState) (s : State) : State := stop (fun u => { u with own := x }) s

/-- The sound unit changed. -/
def sound (f : SoundUnit → SoundUnit) (s : State) : State := s.withSound (f s.sound)

/-- The values of the vehicle link changed. -/
def vl (f : VlUnit → VlUnit) (s : State) : State := s.withVl (f s.vl)

/-- A partner frame with nothing in it to act on: vehicle 2, rank 1. -/
def frame : ConsistFrame where
  vehicle := 2
  rank := 1
  length := 300
  coupledEnd := some .a
  authority := ⟨.dark, none, none⟩
  rk := 0
  divisor := 1
  ceiling := 250
  holding := false
  ownSources := 0
  standstill := true
  stopBlock := none
  presses := none
  manualBell := false
  intent := none
  answer := none

/-- The consist unit replaced. -/
def consist (c : ConsistUnit) (s : State) : State := s.withConsist c

/-- COUPLED to the partner of `frame`, with a role. -/
def coupled (role : Role) (s : State) : State :=
  consist ⟨.coupled, some role, some (2, 1), 0, some frame, some 50, some .b, none⟩ s

/-- A record of the junction table, its marker just crossed, 5 m before its point. -/
def record (j : Nat) (leg : Option Leg) (st : RecordState) : JunctionRecord :=
  ⟨j, leg, 100, 5, 5, 0, none, st, none, false, false, none, none⟩

/-- The junction table replaced. -/
def table (l : List JunctionRecord) (s : State) : State := junc (fun x => { x with records := l }) s

/-- The stop state of a phase, with nothing else in it. -/
def phase (ph : Phase) : StopState := { StopState.none with phase := ph }

/-- Page 0 of a consist frame held under TAG 5. -/
def brings (f : ConsistFrame) (s : State) : State := s.withAssembly (some (5, consistPage0 f))

/-- The stop block of a frame in a phase, for every door, with the given sides. -/
def block (ph : Phase) (left right assist : Bool) : StopBlock := ⟨ph, 0xFFFF, assist, left, right⟩

/-- The state an outcome answers. -/
def answer : Host.Outcome State Fault Refusal → State
  | .next t => t
  | .fault _ => base
  | .refused _ => base

/-! ### From checks that evaluate to the terms of the statements -/

theorem settled_of {s : State} (h : settle s = s) : Settled s := h

theorem offered_of {p : Port} {c : Command} {s : State}
    (h : (s.port p).commands.head? = some c ∧ (s.port p).unanswered = none ∧ (s.port p).heldAnswer = none ∧
      (s.port p).transmit.length + 2 ≤ 8) : Offered p c s := ⟨h.1, h.2.1, h.2.2.1, h.2.2.2⟩

theorem awake_of {s : State} (h : s.isStabled = false) (n : Nat) : s.auth.record ≠ .stabled n := by
  intro e
  simp [State.isStabled, e] at h

theorem stabled_of {s : State} (n : Nat) (h : s.auth.record = .stabled n) : ∃ k, s.auth.record = .stabled k := ⟨n, h⟩

theorem noClaim_of {s : State} {e : End} (h : (match s.auth.record with
    | .claiming i => decide (i.claimant ≠ e)
    | _ => true) = true) (i : ClaimIntent) (r : s.auth.record = .claiming i) : i.claimant ≠ e := by
  simpa [r] using h

theorem unpaired_of {s : State} (h : s.consist.role = none ∧ s.consist.state = .single) : Unpaired s :=
  ⟨h.1, Or.inl h.2⟩

theorem paired_of {s : State} (h : s.consist.state = .coupled ∧
    s.consist.latest.all (fun f => decide (f.vehicle ≠ s.vl.vehicleNumber) && decide (f.rank ≠ s.vl.rank)) = true) :
    Paired s := by
  refine ⟨h.1, fun f hf => ?_⟩
  simpa [hf] using h.2

theorem noneOnPoint_of {s : State} (h : ∀ x ∈ s.junction.records, x.state ≠ .onPoint) : NoneOnPoint s := h

theorem someOnPoint_of {s : State} (h : ¬ ∀ x ∈ s.junction.records, x.state ≠ .onPoint) : ¬ NoneOnPoint s := h

theorem nearest_of {s : State} {x : JunctionRecord} (h : x ∈ s.junction.records ∧ x.state ≠ .onPoint ∧
    ∀ y ∈ s.junction.records, y.state ≠ .onPoint → y = x ∨ runsOut s x < runsOut s y ∨
      (runsOut s x = runsOut s y ∧ x.junction < y.junction)) : Nearest s x := h

theorem clear_of {e : End} {s : State} (h : ∀ src ∈ allSources, s.emerg.recorded.getLsbD src.bit = true →
    conditionClear e s src = true) (src : EmergencySource) (r : s.emerg.recorded.getLsbD src.bit = true) :
    conditionClear e s src = true := h src (by cases src <;> decide) r

theorem faulted_of {s : State} (h : ∀ c ∈ allAxles, (match (axleGet s.speed.axles c).health with
    | .faulted _ _ => true
    | .healthy _ _ => false) = true) (c : Axle) : ∃ cause run, (axleGet s.speed.axles c).health = .faulted cause run := by
  have := h c (by cases c <;> decide)
  split at this
  · exact ⟨_, _, by assumption⟩
  · simp at this

theorem table_of {s : State} (h : s.junction.records.length ≤ tablePlaces ∧ (junctionsOf s.junction.records).Nodup ∧
    s.junction.overflow.all (fun c => decide (c.junction ∉ junctionsOf s.junction.records)) = true) : TableSound s :=
  ⟨h.1, h.2.1, fun c hc => by simpa [hc] using h.2.2⟩

theorem queues_of {s : State} (h : (s.wayside.jr.map JrEntry.junction).Nodup ∧ s.wayside.jq.Nodup ∧
    s.wayside.jr.length ≤ Machine.jrPlaces ∧ s.wayside.jq.length ≤ Machine.jqPlaces ∧
    s.wayside.sp.length ≤ Machine.spPlaces ∧ s.wayside.vx.length ≤ Machine.vxPlaces) : QueuesSound s :=
  ⟨h.1, h.2.1, h.2.2.1, h.2.2.2.1, h.2.2.2.2.1, h.2.2.2.2.2⟩

theorem fifos_of {s : State} (h : (∀ p ∈ allPorts, (s.port p).commands.length ≤ fifoPlaces ∧
    (s.port p).transmit.length ≤ fifoPlaces) ∧ s.vl.events.length ≤ eventPlaces ∧ s.junction.plan.length ≤ planPlaces) :
    FifosSound s :=
  ⟨fun p => (h.1 p (by cases p <;> decide)).1, fun p => (h.1 p (by cases p <;> decide)).2, h.2.1, h.2.2⟩

theorem latch_of {s : State} (h : (s.emerg.recorded = 0 ↔ s.emerg.first = none) ∧ s.emerg.recorded &&& 0xFC00 = 0) :
    LatchSound s := ⟨h.1, h.2⟩

theorem rung_of {d : Option Nat} (h : d.all (fun n => decide (n ∈ rungs)) = true) : demandSound d := fun n hn => by
  simpa [hn] using h

theorem ladder_of {s : State} (h : s.emerg.divisor ∈ rungs ∧ s.emerg.demands.target ≤ s.emerg.divisor ∧
    (∀ d ∈ [s.emerg.demands.sensor, s.emerg.demands.reference, s.emerg.demands.adhesion, s.emerg.demands.vehicle,
      s.emerg.demands.partner], d.all (fun n => decide (n ∈ rungs)) = true) ∧
    s.consist.latest.all (fun f => decide (f.divisor ∈ rungs)) = true) : LadderSound s :=
  ⟨h.1, h.2.1, rung_of (h.2.2.1 _ (by simp)), rung_of (h.2.2.1 _ (by simp)), rung_of (h.2.2.1 _ (by simp)),
    rung_of (h.2.2.1 _ (by simp)), rung_of (h.2.2.1 _ (by simp)), fun f hf => by simpa [hf] using h.2.2.2⟩

theorem sounds_of {s : State} (h : ∀ k ∈ allSpeakers, let ch := s.sound.channels.get k
    (ch.playing = none → ch.waiting = []) ∧ ch.waiting.length ≤ waitingPlaces ∧
      ((ch.playing.toList ++ ch.waiting).map (·.source)).Nodup ∧
      ch.waiting.Pairwise fun x y => entryBefore s.sound.patterns y x = false) : SoundsSound s := fun k => by
  have := h k (by cases k <;> decide)
  exact ⟨this.1, this.2.1, this.2.2.1, this.2.2.2⟩

theorem demand_of {s : State} (h : (-100 ≤ s.shaper.prev ∧ s.shaper.prev ≤ 100) ∧ (10 ≤ s.shaper.cap ∧ s.shaper.cap ≤ 100) ∧
    s.consist.latest.all (fun f => decide (-100 ≤ f.rk) && decide (f.rk ≤ 100)) = true) : DemandSound s :=
  ⟨h.1, h.2.1, fun f hf => by simpa [hf] using h.2.2⟩

theorem consist_of {s : State} (role : s.consist.role = (if s.consist.state = .coupled then
      match s.auth.record with
      | .active _ => some .lead
      | .remote => if (s.consist.latest.map fun f => f.authority.state) = some .active then some .trail else some .neutral
      | .dark | .claiming _ | .parked _ _ | .stabled _ => some .neutral
    else none))
    (h : (match s.auth.record with
      | .remote => decide (s.consist.state = .coupled)
      | .claiming _ => decide (s.consist.state = .coupled)
      | .stabled _ => decide (s.consist.state = .single)
      | _ => true) = true)
    (f : (s.consist.state = .coupled → s.consist.latest.isSome = true) ∧
      (s.consist.state ≠ .coupled → s.consist.facingEnd = none)) : ConsistSound s where
  role := role
  remote r := by simpa [r] using h
  claiming i r := by simpa [r] using h
  stabled n r := by simpa [r] using h
  frame := f.1
  facing := f.2

theorem brings_of {f : ConsistFrame} {page : List Byte} {s : State} (h : (s.port .kl).link = true ∧
    page.head? = some 0x12 ∧ (s.assembly = some (5, consistPage0 f) ∧ consistOf (consistPage0 f) page = some f) ∧
    (1 ≤ f.vehicle ∧ f.vehicle ≤ 9999) ∧ 100 ≤ f.length ∧ f.length ≤ 600) : Brings 5 page f s :=
  ⟨h.1, h.2.1, ⟨_, h.2.2.1⟩, h.2.2.2⟩

theorem stays_of {f : ConsistFrame} {s : State} (sound : ConsistSound s) (h : s.consist.state = .coupled ∧
    s.consist.identity = some (f.vehicle, f.rank) ∧ (f.vehicle ≠ s.vl.vehicleNumber ∧ f.rank ≠ s.vl.rank) ∧
    (match s.auth.record with
      | .active _ => decide (f.authority.state ≠ .active)
      | _ => true) = true) : StaysCoupled f s where
  sound := sound
  state := h.1
  partner := h.2.1
  other := h.2.2.1
  apart e r := by simpa [r] using h.2.2.2

theorem nothing_of {s : State} (h : (∀ p ∈ allPorts, (s.port p).commands = [] ∨ (s.port p).unanswered.isSome = true ∨
      (s.port p).heldAnswer.isSome = true) ∧ 0 ∉ runningTimers s ∧
    (match s.emerg.vigil with
      | .quiet n => s.emerg.running && s.holdHeld && decide (60000 ≤ n)
      | .warningHold _ | .warningTime _ | .penalty => false) = false ∧ ((soundOutputs s).horn = .off ∨ s.sound.hornOn < 5000)) : NothingDue s where
  commands p := h.1 p (by cases p <;> decide)
  timers := h.2.1
  time := h.2.2.1
  horn := h.2.2.2

/-- Whether an outcome is a next state. -/
def runs : Host.Outcome State Fault Refusal → Bool
  | .next _ => true
  | .fault _ => false
  | .refused _ => false

theorem next_of {o : Host.Outcome State Fault Refusal} (h : runs o = true) : o = .next (answer o) := by
  cases o <;> first | rfl | cases h

theorem notActing_of {s : State} (h : s.actsOnMarkers = false) :
    ¬ ((∃ e, s.auth.record = .active e) ∨ (∃ e n, s.auth.record = .parked e n) ∨ ∃ x, s.auth.record = .claiming x) := by
  rintro (⟨e, h'⟩ | ⟨e, n, h'⟩ | ⟨x, h'⟩) <;> simp [State.actsOnMarkers, h'] at h

theorem noOverflow_of {s : State} (h : s.junction.overflow = none) (c : JunctionContents)
    (hc : s.junction.overflow = some c) : c.junction ≠ 4095 := by simp [h] at hc

theorem noClaiming_of {s : State} (h : s.auth.record = .remote) (i : ClaimIntent) : s.auth.record ≠ .claiming i := by
  simp [h]

/-! ### Well-formedness: each check refuses an ill-formed command and lets its boundary through -/

theorem test_payload_of_13_is_ill_formed : WellFormed (.commandArrival .ca 0x10 5 (List.replicate 13 0)) = false ∧
    WellFormed (.commandArrival .ca 0x10 5 (List.replicate 12 0)) = true ∧
    WellFormed (.consistPage .a 5 (List.replicate 13 0)) = false ∧
    WellFormed (.consistPage .a 5 (List.replicate 12 0)) = true := by decide

theorem test_number_0_is_ill_formed : WellFormed (.requestMarker 0) = false ∧ WellFormed (.entryMarker 0) = false ∧
    WellFormed (.signalMarker 0 true) = false ∧ WellFormed (.pointReport 0 .left .free) = false ∧
    WellFormed (.priorityAck 0 1) = false ∧ WellFormed (.reportTimerExpires 0) = false ∧
    WellFormed (.reRequestTimerExpires 0) = false ∧ WellFormed (.pointReachedByDistance 0) = false ∧
    WellFormed (.junctionPassed 0) = false := by decide

theorem test_number_4096_is_ill_formed : WellFormed (.requestMarker 4096) = false ∧
    WellFormed (.requestMarker 4095) = true ∧ WellFormed (.entryMarker 4096) = false ∧
    WellFormed (.signalMarker 4096 false) = false ∧ WellFormed (.pointReport 4096 .left .free) = false ∧
    WellFormed (.priorityAck 4096 1) = false ∧ WellFormed (.junctionPassed 4096) = false := by decide

theorem test_vehicle_65536_is_ill_formed : WellFormed (.pointReport 1 .left (.lockedFor 65536)) = false ∧
    WellFormed (.pointReport 1 .left (.lockedFor 65535)) = true ∧ WellFormed (.priorityAck 1 65536) = false ∧
    WellFormed (.priorityAck 1 65535) = true := by decide

/-! ### Frames and markers -/

/-- R197, worked case of section 10.1: RELEASE with TAG 5 is 02 11 05 DD 06 on the wire. -/
theorem test_release_frame : linkFrame 0x11 0x05 [] = [0x02, 0x11, 0x05, 0xDD, 0x06] := by decide

theorem test_release_frame_is_received :
    receiveFrame .ca .a false [0x02, 0x11, 0x05, 0xDD, 0x06] = .commandArrival .ca 0x11 0x05 [] := by decide

theorem test_wrong_check_is_a_bad_frame : receiveFrame .cb .a false [0x02, 0x11, 0x05, 0xDD, 0x07] = .badFrame .cb := by
  decide

/-- R197 with the wayside seed, by hand: 3C5A rotated by 5 is 8B47, with 03 8B4A; rotated 6951, with 21 6972. -/
theorem test_wayside_check : checkCode waysideSeed [0x03, 0x21] = 0x6972 := by decide

theorem test_link_frame_is_no_marker : receiveMarker [0x02, 0x11, 0x05, 0xDD, 0x06] = .markerCheckFailed := by decide

/-- The table gives its rows no bits (log 24). -/
theorem test_no_word_spells_a_command : decodeTableWord 16 0x1234 = none := rfl

/-! ### The spec's worked cases -/

/-- R27: 17 pulses in the window at 2136 read 130. -/
theorem test_channel_speed : channelSpeed 2136 [4, 4, 3, 3, 3] = 130 := by decide

/-- R37: a remainder of 6408 and 3 pulses more advance the odometer by 1 dm and leave 2816. -/
theorem test_odometer : (fun t : State => (t.speed.odometer, t.speed.remainder))
    (answer (exec (.periodUpdate ⟨true, true, true, true⟩) (speed (fun x => { x with
      remainder := 6408, axles := { x.axles with t1 := { x.axles.t1 with count := 3 } } }) base))) = (1, 2816) := by
  decide +kernel

/-- The outputs of computations at given speeds, from a state (section 3, worked examples). -/
def computed (s : State) : List Nat → List (Int × Nat)
  | [] => []
  | v :: vs =>
    let t := computeDemand (speed (fun x => { x with vRef := v }) s)
    (t.shaper.prev, t.shaper.dwell) :: computed t vs

/-- A tram climbing to its ceiling with divisor 2, lever +80, the demand at a value. -/
def climbing (o : Int) : State :=
  shape (fun x => { x with dwell := 0, prev := o }) <| emerg (fun x => { x with divisor := 2 }) <|
    auth (.active .a) <| cab .a (console (.number 80) true) <| fast 120 base

theorem test_climb_to_the_ceiling :
    computed (climbing 30) [120, 128, 140, 151] = [(34, 0), (36, 0), (28, 0), (20, 0)] := by decide +kernel

theorem test_overspeed_and_changeover :
    computed (climbing 20) [172, 173, 174, 174, 175, 175, 175, 175, 175, 174] =
      [(12, 0), (4, 0), (0, 5), (0, 4), (0, 3), (0, 2), (0, 1), (0, 0), (-4, 0), (-8, 0)] := by decide +kernel

theorem test_emergency_demand : computed (latched .loop (climbing 40)) [300] = [(-100, 0)] := by decide +kernel

/-- Section 6.4, the burst of traffic after R301: Q512, P77, R302, S1, S2, then nothing. -/
theorem test_burst_of_traffic : (fun s : State =>
      [1, 2, 3, 4].map fun n => ((fun t => answer (exec .txDone t))^[n] s).wayside.sending.map (·.telegram))
    (way (fun x => { x with
      jr := [.request 302 .left], jq := [512], sp := [⟨77, 0⟩], vx := [[1], [2]], ptr0 := .jq, parked := .jr
      sending := some ⟨.pointRequest 301 1 .left, .jr, 0⟩ }) base) =
    [some (.statusQuery 512 1), some (.priorityRequest 77 1 0), some (.pointRequest 302 1 .left),
      some (.service 1 [1])] := by decide +kernel

/-- Section 5, an approach: at r = 390 a SET record gives a ceiling of 100, at r below 200 it gives 0, LOCKED gives its own. -/
theorem test_junction_ceiling : ([((210 : Count24), RecordState.set), (401, .set), (401, .locked)].map fun x =>
    junctionCeiling (speed (fun u => { u with odometer := x.1 }) (table [{ record 301 (some .left) x.2 with
      ceiling := 150, distance := 60 }] base))) = [100, 0, 150] := by decide +kernel

/-- Section 7.4, the worked stop: from cab B, LEFT is physical side 2, and the pulse goes to door 6 of the set alone. -/
theorem test_door_release_from_cab_b : (fun t : State =>
      (t.outputs.enable1, t.outputs.enable2, t.outputs.autoOpen, (t.port .cb).transmit.getLast?))
    (answer (exec (.doorRelease .cb) (asks .cb ⟨0x13, 5, [1]⟩
      (auth (.active .b) (doors { phase .requested with doors := 0x0044 } base))))) =
    (false, true, 0x40, some (.accepted 0x13 5 [1])) := by decide +kernel

/-- Section 10.8: with a full queue the oldest entry is lost and the new one carries GAP (R207). -/
theorem test_gap : (fun s : State => (s.vl.events.length, s.vl.events.getLast?.map (·.gap)))
    (appendEvent .doorsClosed (vl (fun x => { x with
      events := List.replicate 32 ⟨.doorOpenMoving, 1, 1, false⟩ }) base)) = (32, some true) := by decide +kernel

/-- Section 9, the first frames: two frames of one identity count to 2, the third couples the pair. -/
theorem test_third_frame_couples : ([2, 3].map fun n => (fun s : State => (s.consist.state, s.consist.count))
    ((fun s => answer (exec (.consistPage .b 5 (consistPage1 frame))
      (answer (exec (.consistPage .b 5 (consistPage0 frame)) s))))^[n] base)) = [(.joining, 2), (.coupled, 0)] := by
  decide +kernel

/-- A step with an empty queue and nothing due lets one character time pass (log 5). -/
theorem test_idle_step : (answer (step State.reset)).clock.phase = 1 := by decide +kernel

/-! ### Witnesses: for each statement with hypotheses, states that meet them, clause by clause -/

theorem witness_ClaimTakesAuthority :
    (∃ s : State, Offered .ca ⟨0x10, 5, []⟩ s ∧ Settled s ∧ Unpaired s ∧ s.pins.key.get .a = true ∧
      (s.port .ca).link = true ∧ s.auth.record = .dark ∧ (s.slot .a).lever ≠ .emergency) ∧
    (∃ s : State, Offered .ca ⟨0x10, 5, []⟩ s ∧ Settled s ∧ Unpaired s ∧ s.pins.key.get .a = true ∧
      (s.port .ca).link = true ∧ s.auth.record = .parked .a 1 ∧ (s.slot .a).lever ≠ .emergency) ∧
    (∃ s : State, Offered .ca ⟨0x10, 5, []⟩ s ∧ Settled s ∧ Unpaired s ∧ s.pins.key.get .a = true ∧
      (s.port .ca).link = true ∧ s.auth.record = .dark ∧ (s.slot .a).lever = .emergency) ∧
    (∃ s : State, Offered .ca ⟨0x10, 5, []⟩ s ∧ Settled s ∧ s.pins.key.get .a = true ∧ (s.port .ca).link = true ∧
      s.auth.record = .active .a) :=
  ⟨⟨settle (asks .ca ⟨0x10, 5, []⟩ base), offered_of (by decide +kernel), settled_of (by decide +kernel),
  unpaired_of (by decide +kernel), by decide +kernel⟩,
   ⟨settle (auth (.parked .a 1) <| (asks .ca ⟨0x10, 5, []⟩ base)), offered_of (by decide +kernel),
     settled_of (by decide +kernel), unpaired_of (by decide +kernel), by decide +kernel⟩,
   ⟨settle (cab .a (console .emergency true) <| (asks .ca ⟨0x10, 5, []⟩ base)), offered_of (by decide +kernel),
     settled_of (by decide +kernel), unpaired_of (by decide +kernel), by decide +kernel⟩,
   ⟨settle (auth (.active .a) <| (asks .ca ⟨0x10, 5, []⟩ base)), offered_of (by decide +kernel),
     settled_of (by decide +kernel), by decide +kernel⟩⟩

theorem witness_ClaimHandsOver :
    (∃ s : State, Offered .ca ⟨0x10, 5, []⟩ s ∧ Settled s ∧ NoneOnPoint s ∧ Unpaired s ∧ s.pins.key.get .a = true ∧
      (s.port .ca).link = true ∧ s.auth.record = .parked .b 120000 ∧ s.speed.standstill = true) :=
  ⟨settle (auth (.parked .b 120000) <| table [record 7 (some .left) .set] <| (asks .ca ⟨0x10, 5, []⟩ base)),
  offered_of (by decide +kernel), settled_of (by decide +kernel), noneOnPoint_of (by decide +kernel),
  unpaired_of (by decide +kernel), by decide +kernel⟩

theorem witness_ClaimBeginsExchange :
    (∃ s : State, Offered .ca ⟨0x10, 5, []⟩ s ∧ Settled s ∧ Paired s ∧ ConsistSound s ∧ ClaimFrom .a s .dark ∧
      s.pins.key.get .a = true ∧ (s.port .ca).link = true) ∧
    (∃ s : State, Offered .ca ⟨0x10, 5, []⟩ s ∧ Settled s ∧ Paired s ∧ ConsistSound s ∧
      ClaimFrom .a s (.parked .b 1) ∧ s.pins.key.get .a = true ∧ (s.port .ca).link = true) ∧
    (∃ s : State, Offered .ca ⟨0x10, 5, []⟩ s ∧ Settled s ∧ ConsistSound s ∧ ClaimFrom .a s .dark ∧ TableSound s ∧
      s.pins.key.get .a = true ∧ (s.port .ca).link = true ∧ s.consist.state = .coupled ∧
      s.consist.latest = some frame ∧ frame.rank = s.vl.rank) ∧
    (∃ s : State, Offered .ca ⟨0x10, 5, []⟩ s ∧ Settled s ∧ ConsistSound s ∧ ClaimFrom .a s (.parked .b 1) ∧
      s.pins.key.get .a = true ∧ (s.port .ca).link = true ∧ s.consist.state = .coupled ∧
      s.consist.latest = some frame ∧ frame.rank = s.vl.rank ∧ s.consist.identity = some (2, 1)) ∧
    (∃ s : State, Settled s ∧
      Brings 5 (consistPage1 ({ frame with answer := some (1, true) })) ({ frame with answer := some (1, true) }) s ∧
      StaysCoupled ({ frame with answer := some (1, true) }) s ∧ TableSound s ∧ s.auth.record = .claiming ⟨.a, 9, 1,
      .parked .b 7⟩ ∧ (s.port .ca).unanswered = some ⟨0x10, 5, []⟩ ∧ (s.port .ca).transmit.length < 8) ∧
    (∃ s : State, Settled s ∧
      Brings 5 (consistPage1 ({ frame with answer := some (1, true) })) ({ frame with answer := some (1, true) }) s ∧
      StaysCoupled ({ frame with answer := some (1, true) }) s ∧ s.auth.record = .claiming ⟨.a, 9, 1, .dark⟩ ∧
      (s.port .ca).unanswered = some ⟨0x10, 5, []⟩) ∧
    (∃ s : State, Settled s ∧
      Brings 5 (consistPage1 ({ frame with answer := some (1, false), authority := ⟨.active, some .a, none⟩ })) ({ frame with answer := some (1, false), authority := ⟨.active, some .a, none⟩ }) s ∧
      StaysCoupled ({ frame with answer := some (1, false), authority := ⟨.active, some .a, none⟩ }) s ∧
      s.auth.record = .claiming ⟨.a, 9, 1, .parked .b 7⟩ ∧ (s.port .ca).unanswered = some ⟨0x10, 5, []⟩) ∧
    (∃ s : State, Settled s ∧
      Brings 5 (consistPage1 ({ frame with answer := some (1, false), authority := ⟨.active, some .a, none⟩ })) ({ frame with answer := some (1, false), authority := ⟨.active, some .a, none⟩ }) s ∧
      StaysCoupled ({ frame with answer := some (1, false), authority := ⟨.active, some .a, none⟩ }) s ∧
      TableSound s ∧ s.auth.record = .claiming ⟨.a, 9, 1, .dark⟩ ∧ (s.port .ca).unanswered = some ⟨0x10, 5, []⟩) ∧
    (∃ s : State, Settled s ∧
      Brings 5 (consistPage1 ({ frame with answer := some (2, true) })) ({ frame with answer := some (2, true) }) s ∧
      StaysCoupled ({ frame with answer := some (2, true) }) s ∧ s.auth.record = .claiming ⟨.a, 9, 1, .dark⟩ ∧
      ¬ ({ frame with answer := some (2, true) }).answer = some (1, true) ∧
      ¬ ({ frame with answer := some (2, true) }).answer = some (1, false)) :=
  ⟨⟨settle (coupled .neutral <| (asks .ca ⟨0x10, 5, []⟩ base)), offered_of (by decide +kernel),
  settled_of (by decide +kernel), paired_of (by decide +kernel),
  consist_of (by decide +kernel) (by decide +kernel) (by decide +kernel),
  (by decide +kernel : (_ : State).auth.record = .dark), by decide +kernel⟩,
   ⟨settle (coupled .neutral <| auth (.parked .b 1) <| (asks .ca ⟨0x10, 5, []⟩ base)), offered_of (by decide +kernel),
     settled_of (by decide +kernel), paired_of (by decide +kernel),
     consist_of (by decide +kernel) (by decide +kernel) (by decide +kernel), ⟨by decide +kernel,
     Or.inr ⟨by decide +kernel, noneOnPoint_of (by decide +kernel)⟩⟩, by decide +kernel⟩,
   ⟨settle (vl (fun x => { x with rank := 1 }) <| coupled .neutral <| (asks .ca ⟨0x10, 5, []⟩ base)),
     offered_of (by decide +kernel), settled_of (by decide +kernel),
     consist_of (by decide +kernel) (by decide +kernel) (by decide +kernel),
     (by decide +kernel : (_ : State).auth.record = .dark), table_of (by decide +kernel), by decide +kernel⟩,
   ⟨settle (vl (fun x => { x with rank := 1 }) <| coupled .neutral <| auth (.parked .b 1) <| (asks .ca ⟨0x10, 5,
     []⟩ base)), offered_of (by decide +kernel), settled_of (by decide +kernel),
     consist_of (by decide +kernel) (by decide +kernel) (by decide +kernel), ⟨by decide +kernel,
     Or.inr ⟨by decide +kernel, noneOnPoint_of (by decide +kernel)⟩⟩, by decide +kernel⟩,
   ⟨settle (brings ({ frame with answer := some (1, true) }) <| auth (.claiming ⟨.a, 9, 1,
     .parked .b 7⟩) <| port .ca (fun x => { x with unanswered := some ⟨0x10, 5, []⟩ }) <| coupled .neutral <| base),
     settled_of (by decide +kernel), brings_of (by decide +kernel),
     stays_of (consist_of (by decide +kernel) (by decide +kernel) (by decide +kernel)) (by decide +kernel),
     table_of (by decide +kernel), by decide +kernel⟩,
   ⟨settle (brings ({ frame with answer := some (1, true) }) <| auth (.claiming ⟨.a, 9, 1,
     .dark⟩) <| port .ca (fun x => { x with unanswered := some ⟨0x10, 5, []⟩ }) <| coupled .neutral <| base),
     settled_of (by decide +kernel), brings_of (by decide +kernel),
     stays_of (consist_of (by decide +kernel) (by decide +kernel) (by decide +kernel)) (by decide +kernel),
     by decide +kernel⟩,
   ⟨settle (brings ({ frame with answer := some (1, false), authority := ⟨.active, some .a, none⟩ }) <| auth (.claiming ⟨.a,
     9, 1,
     .parked .b 7⟩) <| port .ca (fun x => { x with unanswered := some ⟨0x10, 5, []⟩ }) <| coupled .neutral <| base),
     settled_of (by decide +kernel), brings_of (by decide +kernel),
     stays_of (consist_of (by decide +kernel) (by decide +kernel) (by decide +kernel)) (by decide +kernel),
     by decide +kernel⟩,
   ⟨settle (brings ({ frame with answer := some (1, false), authority := ⟨.active, some .a, none⟩ }) <| auth (.claiming ⟨.a,
     9, 1,
     .dark⟩) <| port .ca (fun x => { x with unanswered := some ⟨0x10, 5, []⟩ }) <| table [record 7 (some .left) .set] <| coupled .neutral <| base),
     settled_of (by decide +kernel), brings_of (by decide +kernel),
     stays_of (consist_of (by decide +kernel) (by decide +kernel) (by decide +kernel)) (by decide +kernel),
     table_of (by decide +kernel), by decide +kernel⟩,
   ⟨settle (brings ({ frame with answer := some (2, true) }) <| auth (.claiming ⟨.a, 9, 1,
     .dark⟩) <| port .ca (fun x => { x with unanswered := some ⟨0x10, 5, []⟩ }) <| coupled .neutral <| base),
     settled_of (by decide +kernel), brings_of (by decide +kernel),
     stays_of (consist_of (by decide +kernel) (by decide +kernel) (by decide +kernel)) (by decide +kernel),
     by decide +kernel⟩⟩

theorem witness_ClaimRefusals :
    (∃ s : State, Offered .ca ⟨0x10, 5, []⟩ s ∧ Settled s ∧ s.pins.key.get .a = false) ∧
    (∃ s : State, Offered .ca ⟨0x10, 5, []⟩ s ∧ Settled s ∧ s.pins.key.get .a = true ∧ (s.port .ca).link = false) ∧
    (∃ s : State, Offered .ca ⟨0x10, 5, []⟩ s ∧ Settled s ∧ s.pins.key.get .a = true ∧ (s.port .ca).link = true ∧
      s.auth.record = .active (otherEnd .a)) ∧
    (∃ s : State, Offered .ca ⟨0x10, 5, []⟩ s ∧ Settled s ∧ (∃ x, s.auth.record = .claiming x) ∧
      s.pins.key.get .a = true ∧ (s.port .ca).link = true) ∧
    (∃ s : State, Offered .ca ⟨0x10, 5, []⟩ s ∧ Settled s ∧ s.pins.key.get .a = true ∧ (s.port .ca).link = true ∧
      s.auth.record = .remote) ∧
    (∃ s : State, Offered .ca ⟨0x10, 5, []⟩ s ∧ Settled s ∧ (∃ n, s.auth.record = .stabled n) ∧
      s.pins.key.get .a = true ∧ (s.port .ca).link = true) ∧
    (∃ s : State, Offered .ca ⟨0x10, 5, []⟩ s ∧ Settled s ∧ (∃ n, s.auth.record = .parked (otherEnd .a) n) ∧
      s.pins.key.get .a = true ∧ (s.port .ca).link = true ∧ s.speed.standstill = false) ∧
    (∃ s : State, Offered .ca ⟨0x10, 5, []⟩ s ∧ Settled s ∧ (∃ n, s.auth.record = .parked (otherEnd .a) n) ∧
      ¬ NoneOnPoint s ∧ s.pins.key.get .a = true ∧ (s.port .ca).link = true ∧ s.speed.standstill = true) ∧
    (∃ s : State, Offered .ca ⟨0x10, 5, []⟩ s ∧ Settled s ∧ (∃ prev, ClaimFrom .a s prev) ∧ s.pins.key.get .a = true ∧
      (s.port .ca).link = true ∧ s.consist.state = .joining) ∧
    (∃ s : State, Offered .ca ⟨0x10, 5, []⟩ s ∧ Settled s ∧ (∃ prev, ClaimFrom .a s prev) ∧ s.pins.key.get .a = true ∧
      (s.port .ca).link = true ∧ s.consist.state = .mismatch) :=
  ⟨⟨settle (pins (fun x => { x with key := ⟨false, true⟩ }) <| (asks .ca ⟨0x10, 5, []⟩ base)),
  offered_of (by decide +kernel), settled_of (by decide +kernel), by decide +kernel⟩,
   ⟨settle (port .ca (fun x => { x with link := false }) <| (asks .ca ⟨0x10, 5, []⟩ base)),
     offered_of (by decide +kernel), settled_of (by decide +kernel), by decide +kernel⟩,
   ⟨settle (auth (.active .b) <| (asks .ca ⟨0x10, 5, []⟩ base)), offered_of (by decide +kernel),
     settled_of (by decide +kernel), by decide +kernel⟩,
   ⟨settle (coupled .neutral <| auth (.claiming ⟨.b, 300, 1, .dark⟩) <| (asks .ca ⟨0x10, 5, []⟩ base)),
     offered_of (by decide +kernel), settled_of (by decide +kernel), ⟨⟨.b, 300, 1, .dark⟩, by decide +kernel⟩,
     by decide +kernel⟩,
   ⟨settle (coupled .neutral <| auth .remote <| (asks .ca ⟨0x10, 5, []⟩ base)), offered_of (by decide +kernel),
     settled_of (by decide +kernel), by decide +kernel⟩,
   ⟨settle (auth (.stabled 0) <| (asks .ca ⟨0x10, 5, []⟩ base)), offered_of (by decide +kernel),
     settled_of (by decide +kernel), stabled_of 0 (by decide +kernel), by decide +kernel⟩,
   ⟨settle (auth (.parked .b 9) <| fast 5 <| (asks .ca ⟨0x10, 5, []⟩ base)), offered_of (by decide +kernel),
     settled_of (by decide +kernel), ⟨9, by decide +kernel⟩, by decide +kernel⟩,
   ⟨settle (auth (.parked .b 9) <| table [record 7 (some .left) .onPoint] <| (asks .ca ⟨0x10, 5, []⟩ base)),
     offered_of (by decide +kernel), settled_of (by decide +kernel), ⟨9, by decide +kernel⟩,
     someOnPoint_of (by decide +kernel), by decide +kernel⟩,
   ⟨settle (consist ⟨.joining, none, some (2, 1), 1, some frame, some 50, some .b, none⟩ <| (asks .ca ⟨0x10, 5,
     []⟩ base)), offered_of (by decide +kernel), settled_of (by decide +kernel), ⟨.dark,
     (by decide +kernel : (_ : State).auth.record = .dark)⟩, by decide +kernel⟩,
   ⟨settle (consist ⟨.mismatch, none, some (2, 1), 0, some frame, some 50, some .b, none⟩ <| (asks .ca ⟨0x10, 5,
     []⟩ base)), offered_of (by decide +kernel), settled_of (by decide +kernel), ⟨.dark,
     (by decide +kernel : (_ : State).auth.record = .dark)⟩, by decide +kernel⟩⟩

theorem witness_ReleaseParksTheActiveEnd :
    (∃ s : State, Offered .ca ⟨0x11, 5, []⟩ s ∧ Settled s ∧ (∀ n, s.auth.record ≠ .stabled n) ∧ SoundsSound s ∧
      Unpaired s ∧ s.auth.record = .active .a ∧ s.speed.standstill = true ∧ s.consist.state ≠ .conflict) ∧
    (∃ s : State, Offered .ca ⟨0x11, 5, []⟩ s ∧ Settled s ∧ (∀ n, s.auth.record ≠ .stabled n) ∧
      s.auth.record = .active .a ∧ s.speed.standstill = false) ∧
    (∃ s : State, Offered .ca ⟨0x11, 5, []⟩ s ∧ Settled s ∧ (∀ n, s.auth.record ≠ .stabled n) ∧
      s.auth.record ≠ .active .a) ∧
    (∃ s : State, Offered .ca ⟨0x11, 5, []⟩ s ∧ Settled s ∧ (∀ n, s.auth.record ≠ .stabled n) ∧
      s.auth.record = .active .a ∧ s.speed.standstill = true ∧ s.consist.state = .conflict ∧ s.consist.role = none ∧
      s.consist.latest = some ({ frame with authority := ⟨.active, some .a, none⟩ }) ∧ s.consist.coupledEnd = some .b) :=
  ⟨⟨settle (auth (.active .a) <| (asks .ca ⟨0x11, 5, []⟩ base)), offered_of (by decide +kernel),
  settled_of (by decide +kernel), awake_of (by decide +kernel), sounds_of (by decide +kernel),
  unpaired_of (by decide +kernel), by decide +kernel⟩,
   ⟨settle (auth (.active .a) <| fast 5 <| (asks .ca ⟨0x11, 5, []⟩ base)), offered_of (by decide +kernel),
     settled_of (by decide +kernel), awake_of (by decide +kernel), by decide +kernel⟩,
   ⟨settle (auth (.active .b) <| (asks .ca ⟨0x11, 5, []⟩ base)), offered_of (by decide +kernel),
     settled_of (by decide +kernel), awake_of (by decide +kernel), by decide +kernel⟩,
   ⟨settle (auth (.active .a) <| consist ⟨.conflict, none, some (2, 1), 0,
     some ({ frame with authority := ⟨.active, some .a, none⟩ }), some 50, some .b, none⟩ <| (asks .ca ⟨0x11, 5,
     []⟩ base)), offered_of (by decide +kernel), settled_of (by decide +kernel), awake_of (by decide +kernel),
     by decide +kernel⟩⟩

theorem witness_EmergencyResetReleasesTheLatch :
    (∃ s : State, Offered .ca ⟨0x12, 5, []⟩ s ∧ Settled s ∧ (∀ src : EmergencySource,
      s.emerg.recorded.getLsbD src.bit = true → conditionClear .a s src = true) ∧ SoundsSound s ∧
      s.auth.record = .active .a ∧ s.emerg.recorded ≠ 0 ∧ s.emerg.divisor ≤ 8 ∧ s.speed.standstill = true ∧
      (s.slot .a).fresh = true ∧ (s.slot .a).lever = .number (-50)) ∧
    (∃ s : State, Offered .ca ⟨0x12, 5, []⟩ s ∧ Settled s ∧ s.auth.record = .active .a ∧ s.emerg.recorded = 0) ∧
    (∃ s : State, Offered .ca ⟨0x12, 5, []⟩ s ∧ Settled s ∧ (∀ src : EmergencySource,
      s.emerg.recorded.getLsbD src.bit = true → conditionClear .a s src = true) ∧ SoundsSound s ∧
      s.auth.record = .active .a ∧ s.emerg.recorded ≠ 0 ∧ s.emerg.divisor < 8 ∧ s.speed.standstill = true ∧
      (s.slot .a).fresh = true ∧ (s.slot .a).lever = .number (-50)) :=
  ⟨⟨settle (auth (.active .a) <| latched .command <| (asks .ca ⟨0x12, 5, []⟩ base)), offered_of (by decide +kernel),
  settled_of (by decide +kernel), clear_of (by decide +kernel), sounds_of (by decide +kernel), by decide +kernel⟩,
   ⟨settle (auth (.active .a) <| (asks .ca ⟨0x12, 5, []⟩ base)), offered_of (by decide +kernel),
     settled_of (by decide +kernel), by decide +kernel⟩,
   ⟨settle (auth (.active .a) <| latched .command <| emerg (fun x => { x with divisor := 2 }) <| (asks .ca ⟨0x12, 5,
     []⟩ base)), offered_of (by decide +kernel), settled_of (by decide +kernel), clear_of (by decide +kernel),
     sounds_of (by decide +kernel), by decide +kernel⟩⟩

theorem witness_EmergencyResetRefusals :
    (∃ s : State, Offered .ca ⟨0x12, 5, []⟩ s ∧ Settled s ∧ (∀ n, s.auth.record ≠ .stabled n) ∧
      s.auth.record ≠ .active .a) ∧
    (∃ s : State, Offered .ca ⟨0x12, 5, []⟩ s ∧ Settled s ∧ (∀ n, s.auth.record ≠ .stabled n) ∧
      s.auth.record = .active .a ∧ s.emerg.recorded ≠ 0 ∧ s.speed.standstill = false) ∧
    (∃ s : State, Offered .ca ⟨0x12, 5, []⟩ s ∧ Settled s ∧ (∀ n, s.auth.record ≠ .stabled n) ∧
      s.auth.record = .active .a ∧ s.emerg.recorded ≠ 0 ∧ s.speed.standstill = true ∧
      s.emerg.recorded.getLsbD EmergencySource.lever.bit = true ∧ (s.slot .a).lever = .emergency) ∧
    (∃ s : State, Offered .ca ⟨0x12, 5, []⟩ s ∧ Settled s ∧ (∀ n, s.auth.record ≠ .stabled n) ∧
      s.auth.record = .active .a ∧ s.emerg.recorded ≠ 0 ∧ s.speed.standstill = true ∧
      s.emerg.recorded.getLsbD EmergencySource.vigilance.bit = true ∧ (s.slot .a).deadman = false) ∧
    (∃ s : State, Offered .ca ⟨0x12, 5, []⟩ s ∧ Settled s ∧ (∀ n, s.auth.record ≠ .stabled n) ∧
      s.auth.record = .active .a ∧ s.emerg.recorded ≠ 0 ∧ s.speed.standstill = true ∧
      s.emerg.recorded.getLsbD EmergencySource.link.bit = true ∧ (s.port .ca).link = false) ∧
    (∃ s : State, Offered .ca ⟨0x12, 5, []⟩ s ∧ Settled s ∧ (∀ n, s.auth.record ≠ .stabled n) ∧
      s.auth.record = .active .a ∧ s.emerg.recorded ≠ 0 ∧ s.speed.standstill = true ∧
      s.emerg.recorded.getLsbD EmergencySource.key.bit = true ∧ s.pins.key.get .a = false) ∧
    (∃ s : State, Offered .ca ⟨0x12, 5, []⟩ s ∧ Settled s ∧ (∀ n, s.auth.record ≠ .stabled n) ∧
      s.auth.record = .active .a ∧ s.emerg.recorded ≠ 0 ∧ s.speed.standstill = true ∧
      s.emerg.recorded.getLsbD EmergencySource.loop.bit = true ∧ s.pins.passengerClosed = false) ∧
    (∃ s : State, Offered .ca ⟨0x12, 5, []⟩ s ∧ Settled s ∧ (∀ n, s.auth.record ≠ .stabled n) ∧ (∀ c : Axle,
      ∃ cause run, (axleGet s.speed.axles c).health = .faulted cause run) ∧ s.auth.record = .active .a ∧
      s.emerg.recorded ≠ 0 ∧ s.speed.standstill = true ∧ s.emerg.recorded.getLsbD EmergencySource.speed.bit = true) ∧
    (∃ s : State, Offered .ca ⟨0x12, 5, []⟩ s ∧ Settled s ∧ (∀ n, s.auth.record ≠ .stabled n) ∧
      s.auth.record = .active .a ∧ s.emerg.recorded ≠ 0 ∧ s.speed.standstill = true ∧
      s.emerg.recorded.getLsbD EmergencySource.consist.bit = true ∧ s.consist.state ≠ .single ∧
      s.consist.state ≠ .coupled) ∧
    (∃ s : State, Offered .ca ⟨0x12, 5, []⟩ s ∧ Settled s ∧ (∀ n, s.auth.record ≠ .stabled n) ∧ (∃ f,
      s.consist.latest = some f ∧ f.ownSources ≠ 0) ∧ s.auth.record = .active .a ∧ s.emerg.recorded ≠ 0 ∧
      s.speed.standstill = true ∧ s.emerg.recorded.getLsbD EmergencySource.partner.bit = true ∧
      s.consist.state = .coupled) ∧
    (∃ s : State, Offered .ca ⟨0x12, 5, []⟩ s ∧ Settled s ∧ (∀ n, s.auth.record ≠ .stabled n) ∧
      s.auth.record = .active .a ∧ s.emerg.recorded ≠ 0 ∧ s.speed.standstill = true ∧
      s.emerg.recorded.getLsbD EmergencySource.command.bit = true ∧ s.emerg.commandHold = true) ∧
    (∃ s : State, Offered .ca ⟨0x12, 5, []⟩ s ∧ Settled s ∧ (∀ n, s.auth.record ≠ .stabled n) ∧
      (∀ src : EmergencySource, s.emerg.recorded.getLsbD src.bit = true → conditionClear .a s src = true) ∧
      s.auth.record = .active .a ∧ s.emerg.recorded ≠ 0 ∧ s.speed.standstill = true ∧ (s.slot .a).fresh = false) ∧
    (∃ s : State, Offered .ca ⟨0x12, 5, []⟩ s ∧ Settled s ∧ (∀ n, s.auth.record ≠ .stabled n) ∧
      (∀ src : EmergencySource, s.emerg.recorded.getLsbD src.bit = true → conditionClear .a s src = true) ∧
      s.auth.record = .active .a ∧ s.emerg.recorded ≠ 0 ∧ s.speed.standstill = true ∧ (s.slot .a).lever = .emergency) ∧
    (∃ s : State, Offered .ca ⟨0x12, 5, []⟩ s ∧ Settled s ∧ (∀ n, s.auth.record ≠ .stabled n) ∧
      (∀ src : EmergencySource, s.emerg.recorded.getLsbD src.bit = true → conditionClear .a s src = true) ∧
      (∃ v : Int, (s.slot .a).lever = .number v ∧ -50 < v) ∧ s.auth.record = .active .a ∧ s.emerg.recorded ≠ 0 ∧
      s.speed.standstill = true) :=
  ⟨⟨settle (auth (.parked .a 1) <| (asks .ca ⟨0x12, 5, []⟩ base)), offered_of (by decide +kernel),
  settled_of (by decide +kernel), awake_of (by decide +kernel), by decide +kernel⟩,
   ⟨settle (auth (.active .a) <| latched .key <| fast 5 <| (asks .ca ⟨0x12, 5, []⟩ base)),
     offered_of (by decide +kernel), settled_of (by decide +kernel), awake_of (by decide +kernel), by decide +kernel⟩,
   ⟨settle (auth (.active .a) <| latched .lever <| cab .a (console .emergency true) <| (asks .ca ⟨0x12, 5, []⟩ base)),
     offered_of (by decide +kernel), settled_of (by decide +kernel), awake_of (by decide +kernel), by decide +kernel⟩,
   ⟨settle (auth (.active .a) <| latched .vigilance <| cab .a (console (.number (-50)) false) <| (asks .ca ⟨0x12, 5,
     []⟩ base)), offered_of (by decide +kernel), settled_of (by decide +kernel), awake_of (by decide +kernel),
     by decide +kernel⟩,
   ⟨settle (auth (.active .a) <| latched .link <| port .ca (fun x => { x with link := false }) <| (asks .ca ⟨0x12, 5,
     []⟩ base)), offered_of (by decide +kernel), settled_of (by decide +kernel), awake_of (by decide +kernel),
     by decide +kernel⟩,
   ⟨settle (auth (.active .a) <| latched .key <| pins (fun x => { x with key := ⟨false, false⟩ }) <| (asks .ca ⟨0x12,
     5, []⟩ base)), offered_of (by decide +kernel), settled_of (by decide +kernel), awake_of (by decide +kernel),
     by decide +kernel⟩,
   ⟨settle (auth (.active .a) <| latched .loop <| pins (fun x => { x with passengerClosed := false }) <| (asks .ca ⟨0x12,
     5, []⟩ base)), offered_of (by decide +kernel), settled_of (by decide +kernel), awake_of (by decide +kernel),
     by decide +kernel⟩,
   ⟨settle (auth (.active .a) <| latched .speed <| speed (fun x => { x with axles := ⟨⟨0, [], 0, true, .faulted .zero 0⟩, ⟨0, [], 0, true, .faulted .zero 0⟩, ⟨0, [], 0, true, .faulted .zero 0⟩, ⟨0, [], 0, true, .faulted .zero 0⟩⟩ }) <| (asks .ca ⟨0x12,
     5, []⟩ base)), offered_of (by decide +kernel), settled_of (by decide +kernel), awake_of (by decide +kernel),
     faulted_of (by decide +kernel), by decide +kernel⟩,
   ⟨settle (auth (.active .a) <| latched .consist <| consist ⟨.severed, none, some (2, 1), 0, some frame, none,
     some .b, none⟩ <| (asks .ca ⟨0x12, 5, []⟩ base)), offered_of (by decide +kernel), settled_of (by decide +kernel),
     awake_of (by decide +kernel), by decide +kernel⟩,
   ⟨settle (auth (.active .a) <| latched .partner <| consist ⟨.coupled, some .lead, some (2, 1), 0,
     some { frame with ownSources := 1 }, some 50, some .b, none⟩ <| (asks .ca ⟨0x12, 5, []⟩ base)),
     offered_of (by decide +kernel), settled_of (by decide +kernel), awake_of (by decide +kernel),
     ⟨{ frame with ownSources := 1 }, by decide +kernel, by decide +kernel⟩, by decide +kernel⟩,
   ⟨settle (auth (.active .a) <| latched .command <| emerg (fun x => { x with commandHold := true }) <| (asks .ca ⟨0x12,
     5, []⟩ base)), offered_of (by decide +kernel), settled_of (by decide +kernel), awake_of (by decide +kernel),
     by decide +kernel⟩,
   ⟨settle (auth (.active .a) <| latched .key <| cab .a ⟨.number (-50), true, false, false, false,
     false⟩ <| (asks .ca ⟨0x12, 5, []⟩ base)), offered_of (by decide +kernel), settled_of (by decide +kernel),
     awake_of (by decide +kernel), clear_of (by decide +kernel), by decide +kernel⟩,
   ⟨settle (auth (.active .a) <| latched .key <| cab .a (console .emergency true) <| (asks .ca ⟨0x12, 5, []⟩ base)),
     offered_of (by decide +kernel), settled_of (by decide +kernel), awake_of (by decide +kernel),
     clear_of (by decide +kernel), by decide +kernel⟩,
   ⟨settle (auth (.active .a) <| latched .key <| cab .a (console (.number (-49)) true) <| (asks .ca ⟨0x12, 5,
     []⟩ base)), offered_of (by decide +kernel), settled_of (by decide +kernel), awake_of (by decide +kernel),
     clear_of (by decide +kernel), ⟨-49, by decide +kernel, by decide +kernel⟩, by decide +kernel⟩⟩

theorem witness_DoorReleaseOpensASide :
    (∃ s : State, Offered .ca ⟨0x13, 5, [2]⟩ s ∧ Settled s ∧ s.auth.record = .active .a ∧ s.speed.standstill = true ∧
      s.stop.own.phase = .none) ∧
    (∃ s : State, Offered .ca ⟨0x13, 5, [1]⟩ s ∧ Settled s ∧ s.auth.record = .active .a ∧ s.speed.standstill = true ∧
      s.stop.own.phase = .requested) ∧
    (∃ s : State, Offered .ca ⟨0x13, 5, [1]⟩ s ∧ Settled s ∧ s.auth.record = .active .a ∧ s.speed.standstill = true ∧
      s.stop.own.phase = .atStop ∧ s.stop.own.side1 = false) ∧
    (∃ s : State, Offered .ca ⟨0x13, 5, [1]⟩ s ∧ Settled s ∧ s.auth.record = .active .a ∧ s.speed.standstill = true ∧
      s.stop.own.phase = .atStop ∧ s.stop.own.side1 = true) ∧
    (∃ s : State, Offered .ca ⟨0x13, 5, [1]⟩ s ∧ Settled s ∧ s.auth.record = .active .a ∧ s.speed.standstill = true ∧
      s.stop.own.phase = .departing ∧ (s.stop.own.earlyAssist && !s.stop.own.assist) = false) ∧
    (∃ s : State, Offered .ca ⟨0x13, 5, [1]⟩ s ∧ Settled s ∧ s.auth.record = .active .a ∧ s.speed.standstill = true ∧
      s.stop.own.phase = .departing ∧ (s.stop.own.earlyAssist && !s.stop.own.assist) = true) :=
  ⟨⟨settle (auth (.active .a) <| (asks .ca ⟨0x13, 5, [2]⟩ base)), offered_of (by decide +kernel),
  settled_of (by decide +kernel), by decide +kernel⟩,
   ⟨settle (auth (.active .a) <| doors { phase .requested with doors := 0x0011 } <| (asks .ca ⟨0x13, 5, [1]⟩ base)),
     offered_of (by decide +kernel), settled_of (by decide +kernel), by decide +kernel⟩,
   ⟨settle (auth (.active .a) <| doors { phase .atStop with side2 := true } <| (asks .ca ⟨0x13, 5, [1]⟩ base)),
     offered_of (by decide +kernel), settled_of (by decide +kernel), by decide +kernel⟩,
   ⟨settle (auth (.active .a) <| doors { phase .atStop with side1 := true } <| (asks .ca ⟨0x13, 5, [1]⟩ base)),
     offered_of (by decide +kernel), settled_of (by decide +kernel), by decide +kernel⟩,
   ⟨settle (auth (.active .a) <| doors { phase .departing with closeOdo := some 0 } <| (asks .ca ⟨0x13, 5,
     [1]⟩ base)), offered_of (by decide +kernel), settled_of (by decide +kernel), by decide +kernel⟩,
   ⟨settle (auth (.active .a) <| doors { phase .departing with closeOdo := some 0, earlyPress := true, earlyDoors := 0x0004, earlyAssist := true } <| (asks .ca ⟨0x13,
     5, [1]⟩ base)), offered_of (by decide +kernel), settled_of (by decide +kernel), by decide +kernel⟩⟩

theorem witness_DoorCloseAndAssistAck :
    (∃ s : State, Offered .ca ⟨0x14, 5, []⟩ s ∧ Settled s ∧ s.auth.record = .active .a ∧ s.stop.own.phase = .atStop ∧
      s.stop.own.assist = false) ∧
    (∃ s : State, Offered .ca ⟨0x14, 5, []⟩ s ∧ Settled s ∧ s.auth.record = .active .a ∧
      s.stop.own.phase = .departing) ∧
    (∃ s : State, Offered .ca ⟨0x15, 5, []⟩ s ∧ Settled s ∧ s.auth.record = .active .a ∧ s.stop.own.assist = true) :=
  ⟨⟨settle (auth (.active .a) <| doors { phase .atStop with side1 := true } <| (asks .ca ⟨0x14, 5, []⟩ base)),
  offered_of (by decide +kernel), settled_of (by decide +kernel), by decide +kernel⟩,
   ⟨settle (auth (.active .a) <| doors { phase .departing with closeOdo := some 0 } <| (asks .ca ⟨0x14, 5, []⟩ base)),
     offered_of (by decide +kernel), settled_of (by decide +kernel), by decide +kernel⟩,
   ⟨settle (auth (.active .a) <| doors { phase .requested with assist := true } <| (asks .ca ⟨0x15, 5, []⟩ base)),
     offered_of (by decide +kernel), settled_of (by decide +kernel), by decide +kernel⟩⟩

theorem witness_DoorCommandRefusals :
    (∃ s : State, Offered .ca ⟨0x13, 5, [1]⟩ s ∧ Settled s ∧ (∀ n, s.auth.record ≠ .stabled n) ∧
      s.auth.record ≠ .active .a) ∧
    (∃ s : State, Offered .ca ⟨0x14, 5, []⟩ s ∧ Settled s ∧ (∀ n, s.auth.record ≠ .stabled n) ∧
      s.auth.record ≠ .active .a) ∧
    (∃ s : State, Offered .ca ⟨0x15, 5, []⟩ s ∧ Settled s ∧ (∀ n, s.auth.record ≠ .stabled n) ∧
      s.auth.record ≠ .active .a) ∧
    (∃ s : State, Offered .ca ⟨0x13, 5, [0]⟩ s ∧ Settled s ∧ (∀ n, s.auth.record ≠ .stabled n) ∧
      s.auth.record = .active .a ∧ (0 : Byte) ≠ 1 ∧ (0 : Byte) ≠ 2) ∧
    (∃ s : State, Offered .ca ⟨0x13, 5, [3]⟩ s ∧ Settled s ∧ (∀ n, s.auth.record ≠ .stabled n) ∧
      s.auth.record = .active .a ∧ (3 : Byte) ≠ 1 ∧ (3 : Byte) ≠ 2) ∧
    (∃ s : State, Offered .ca ⟨0x13, 5, [2]⟩ s ∧ Settled s ∧ (∀ n, s.auth.record ≠ .stabled n) ∧
      s.auth.record = .active .a ∧ s.speed.standstill = false) ∧
    (∃ s : State, Offered .ca ⟨0x14, 5, []⟩ s ∧ Settled s ∧ (∀ n, s.auth.record ≠ .stabled n) ∧
      s.auth.record = .active .a ∧ s.stop.own.phase = .none) ∧
    (∃ s : State, Offered .ca ⟨0x14, 5, []⟩ s ∧ Settled s ∧ (∀ n, s.auth.record ≠ .stabled n) ∧
      s.auth.record = .active .a ∧ s.stop.own.phase = .requested) ∧
    (∃ s : State, Offered .ca ⟨0x14, 5, []⟩ s ∧ Settled s ∧ (∀ n, s.auth.record ≠ .stabled n) ∧
      s.auth.record = .active .a ∧ s.stop.own.phase = .atStop ∧ s.stop.own.assist = true) ∧
    (∃ s : State, Offered .ca ⟨0x15, 5, []⟩ s ∧ Settled s ∧ (∀ n, s.auth.record ≠ .stabled n) ∧
      s.auth.record = .active .a ∧ s.stop.own.assist = false) :=
  ⟨⟨settle (asks .ca ⟨0x13, 5, [1]⟩ base), offered_of (by decide +kernel), settled_of (by decide +kernel),
  awake_of (by decide +kernel), by decide +kernel⟩,
   ⟨settle (asks .ca ⟨0x14, 5, []⟩ base), offered_of (by decide +kernel), settled_of (by decide +kernel),
     awake_of (by decide +kernel), by decide +kernel⟩,
   ⟨settle (asks .ca ⟨0x15, 5, []⟩ base), offered_of (by decide +kernel), settled_of (by decide +kernel),
     awake_of (by decide +kernel), by decide +kernel⟩,
   ⟨settle (auth (.active .a) <| (asks .ca ⟨0x13, 5, [0]⟩ base)), offered_of (by decide +kernel),
     settled_of (by decide +kernel), awake_of (by decide +kernel), by decide +kernel⟩,
   ⟨settle (auth (.active .a) <| (asks .ca ⟨0x13, 5, [3]⟩ base)), offered_of (by decide +kernel),
     settled_of (by decide +kernel), awake_of (by decide +kernel), by decide +kernel⟩,
   ⟨settle (auth (.active .a) <| fast 5 <| (asks .ca ⟨0x13, 5, [2]⟩ base)), offered_of (by decide +kernel),
     settled_of (by decide +kernel), awake_of (by decide +kernel), by decide +kernel⟩,
   ⟨settle (auth (.active .a) <| (asks .ca ⟨0x14, 5, []⟩ base)), offered_of (by decide +kernel),
     settled_of (by decide +kernel), awake_of (by decide +kernel), by decide +kernel⟩,
   ⟨settle (auth (.active .a) <| doors (phase .requested) <| (asks .ca ⟨0x14, 5, []⟩ base)),
     offered_of (by decide +kernel), settled_of (by decide +kernel), awake_of (by decide +kernel), by decide +kernel⟩,
   ⟨settle (auth (.active .a) <| doors { phase .atStop with assist := true, side1 := true } <| (asks .ca ⟨0x14, 5,
     []⟩ base)), offered_of (by decide +kernel), settled_of (by decide +kernel), awake_of (by decide +kernel),
     by decide +kernel⟩,
   ⟨settle (auth (.active .a) <| (asks .ca ⟨0x15, 5, []⟩ base)), offered_of (by decide +kernel),
     settled_of (by decide +kernel), awake_of (by decide +kernel), by decide +kernel⟩⟩

theorem witness_SelectLegRequestsALeg :
    (∃ s : State, Offered .ca ⟨0x16, 5, [1]⟩ s ∧ Settled s ∧ TableSound s ∧ Nearest s (record 7 (some .left) .set) ∧
      s.auth.record = .active .a ∧ s.wayside.sending.isSome = true) ∧
    (∃ s : State, Offered .ca ⟨0x16, 5, [3]⟩ s ∧ Settled s ∧ TableSound s ∧
      Nearest s (record 7 (some .left) .locked) ∧ s.auth.record = .active .a) ∧
    (∃ s : State, Offered .ca ⟨0x16, 5, [2]⟩ s ∧ Settled s ∧ TableSound s ∧ s.auth.record = .active .a ∧
      (∀ x ∈ s.junction.records, x.state = .onPoint)) :=
  ⟨⟨settle (auth (.active .a) <| busy <| table [record 7 (some .left) .set, record 8 none .unplanned] <| (asks .ca ⟨0x16,
  5, [1]⟩ base)), offered_of (by decide +kernel), settled_of (by decide +kernel), table_of (by decide +kernel),
  nearest_of (by decide +kernel), by decide +kernel⟩,
   ⟨settle (auth (.active .a) <| table [record 7 (some .left) .locked] <| (asks .ca ⟨0x16, 5, [3]⟩ base)),
     offered_of (by decide +kernel), settled_of (by decide +kernel), table_of (by decide +kernel),
     nearest_of (by decide +kernel), by decide +kernel⟩,
   ⟨settle (auth (.active .a) <| table [record 7 (some .left) .onPoint] <| (asks .ca ⟨0x16, 5, [2]⟩ base)),
     offered_of (by decide +kernel), settled_of (by decide +kernel), table_of (by decide +kernel), by decide +kernel⟩⟩

theorem witness_CancelLegCancels :
    (∃ s : State, Offered .ca ⟨0x17, 5, []⟩ s ∧ Settled s ∧ TableSound s ∧ s.auth.record = .active .a ∧
      s.junction.pendingLeg ≠ none) ∧
    (∃ s : State, Offered .ca ⟨0x17, 5, []⟩ s ∧ Settled s ∧ TableSound s ∧ Nearest s (record 7 (some .left) .set) ∧
      s.auth.record = .active .a ∧ s.junction.pendingLeg = none ∧ s.junction.overflow = none ∧
      s.wayside.sending.isSome = true) ∧
    (∃ s : State, Offered .ca ⟨0x17, 5, []⟩ s ∧ Settled s ∧ TableSound s ∧ s.auth.record = .active .a ∧
      s.junction.pendingLeg = none ∧ (∀ x ∈ s.junction.records, x.state = .onPoint)) ∧
    (∃ s : State, Offered .ca ⟨0x17, 5, []⟩ s ∧ Settled s ∧ TableSound s ∧
      Nearest s ({ record 7 (some .left) .set with sent := true }) ∧ s.auth.record = .active .a ∧
      s.junction.pendingLeg = none ∧ s.junction.overflow = none ∧ s.wayside.sending.isSome = true) ∧
    (∃ s : State, Offered .ca ⟨0x17, 5, []⟩ s ∧ Settled s ∧ TableSound s ∧
      Nearest s ({ record 7 (some .left) .set with sent := true }) ∧ s.auth.record = .active .a ∧
      s.junction.pendingLeg = none ∧ s.junction.overflow = none ∧ s.wayside.sending = none ∧ s.wayside.jr = [] ∧
      s.wayside.jq = [] ∧ s.wayside.sp = [] ∧ s.wayside.vx = []) ∧
    (∃ s : State, Offered .ca ⟨0x17, 5, []⟩ s ∧ Settled s ∧ TableSound s ∧ Nearest s (record 7 (some .left) .set) ∧
      s.auth.record = .active .a ∧ s.junction.pendingLeg = none ∧ s.junction.overflow = some ⟨9, none, 100, 5, 5, 0,
      false⟩) :=
  ⟨⟨settle (auth (.active .a) <| junc (fun x => { x with pendingLeg := some .left }) <| (asks .ca ⟨0x17, 5, []⟩ base)),
  offered_of (by decide +kernel), settled_of (by decide +kernel), table_of (by decide +kernel), by decide +kernel⟩,
   ⟨settle (auth (.active .a) <| busy <| way (fun x => { x with jr := [.request 7 .left, .cancel 9] }) <| table [record 7 (some .left) .set] <| (asks .ca ⟨0x17,
     5, []⟩ base)), offered_of (by decide +kernel), settled_of (by decide +kernel), table_of (by decide +kernel),
     nearest_of (by decide +kernel), by decide +kernel⟩,
   ⟨settle (auth (.active .a) <| (asks .ca ⟨0x17, 5, []⟩ base)), offered_of (by decide +kernel),
     settled_of (by decide +kernel), table_of (by decide +kernel), by decide +kernel⟩,
   ⟨settle (auth (.active .a) <| busy <| way (fun x => { x with jr := [.cancel 3, .cancel 4, .cancel 5, .cancel 6] }) <| table [{ record 7 (some .left) .set with sent := true }] <| (asks .ca ⟨0x17,
     5, []⟩ base)), offered_of (by decide +kernel), settled_of (by decide +kernel), table_of (by decide +kernel),
     nearest_of (by decide +kernel), by decide +kernel⟩,
   ⟨settle (auth (.active .a) <| table [{ record 7 (some .left) .set with sent := true }] <| (asks .ca ⟨0x17, 5,
     []⟩ base)), offered_of (by decide +kernel), settled_of (by decide +kernel), table_of (by decide +kernel),
     nearest_of (by decide +kernel), by decide +kernel⟩,
   ⟨settle (auth (.active .a) <| table [record 7 (some .left) .set] <| junc (fun x => { x with overflow := some ⟨9, none, 100, 5, 5, 0, false⟩ }) <| (asks .ca ⟨0x17,
     5, []⟩ base)), offered_of (by decide +kernel), settled_of (by decide +kernel), table_of (by decide +kernel),
     nearest_of (by decide +kernel), by decide +kernel⟩⟩

theorem witness_PermitAndLegRefusals :
    (∃ s : State, Offered .ca ⟨0x18, 5, []⟩ s ∧ Settled s ∧ TableSound s ∧ Nearest s (record 7 (some .left) .set) ∧
      s.auth.record = .active .a ∧ s.speed.vRef ≤ 50) ∧
    (∃ s : State, Offered .ca ⟨0x18, 5, []⟩ s ∧ Settled s ∧ TableSound s ∧ s.auth.record = .active .a ∧
      s.speed.vRef ≤ 50 ∧ (∀ x ∈ s.junction.records, x.state = .onPoint)) ∧
    (∃ s : State, Offered .ca ⟨0x18, 5, []⟩ s ∧ Settled s ∧ TableSound s ∧ s.auth.record = .active .a ∧
      50 < s.speed.vRef) ∧
    (∃ s : State, Offered .ca ⟨0x16, 5, [0]⟩ s ∧ Settled s ∧ TableSound s ∧ (∀ n, s.auth.record ≠ .stabled n)) ∧
    (∃ s : State, Offered .ca ⟨0x16, 5, [4]⟩ s ∧ Settled s ∧ TableSound s ∧ (∀ n, s.auth.record ≠ .stabled n) ∧
      3 < (4 : Byte).toNat) ∧
    (∃ s : State, Offered .ca ⟨0x16, 5, [3]⟩ s ∧ Settled s ∧ TableSound s ∧ (∀ n, s.auth.record ≠ .stabled n) ∧
      s.auth.record ≠ .active .a) ∧
    (∃ s : State, Offered .ca ⟨0x17, 5, []⟩ s ∧ Settled s ∧ TableSound s ∧ (∀ n, s.auth.record ≠ .stabled n) ∧
      s.auth.record ≠ .active .a) ∧
    (∃ s : State, Offered .ca ⟨0x18, 5, []⟩ s ∧ Settled s ∧ TableSound s ∧ (∀ n, s.auth.record ≠ .stabled n) ∧
      s.auth.record ≠ .active .a) :=
  ⟨⟨settle (auth (.active .a) <| fast 50 <| table [record 7 (some .left) .set] <| (asks .ca ⟨0x18, 5, []⟩ base)),
  offered_of (by decide +kernel), settled_of (by decide +kernel), table_of (by decide +kernel),
  nearest_of (by decide +kernel), by decide +kernel⟩,
   ⟨settle (auth (.active .a) <| (asks .ca ⟨0x18, 5, []⟩ base)), offered_of (by decide +kernel),
     settled_of (by decide +kernel), table_of (by decide +kernel), by decide +kernel⟩,
   ⟨settle (auth (.active .a) <| fast 51 <| (asks .ca ⟨0x18, 5, []⟩ base)), offered_of (by decide +kernel),
     settled_of (by decide +kernel), table_of (by decide +kernel), by decide +kernel⟩,
   ⟨settle (auth (.active .a) <| (asks .ca ⟨0x16, 5, [0]⟩ base)), offered_of (by decide +kernel),
     settled_of (by decide +kernel), table_of (by decide +kernel), awake_of (by decide +kernel)⟩,
   ⟨settle (auth (.active .a) <| (asks .ca ⟨0x16, 5, [4]⟩ base)), offered_of (by decide +kernel),
     settled_of (by decide +kernel), table_of (by decide +kernel), awake_of (by decide +kernel), by decide +kernel⟩,
   ⟨settle (asks .ca ⟨0x16, 5, [3]⟩ base), offered_of (by decide +kernel), settled_of (by decide +kernel),
     table_of (by decide +kernel), awake_of (by decide +kernel), by decide +kernel⟩,
   ⟨settle (asks .ca ⟨0x17, 5, []⟩ base), offered_of (by decide +kernel), settled_of (by decide +kernel),
     table_of (by decide +kernel), awake_of (by decide +kernel), by decide +kernel⟩,
   ⟨settle (asks .ca ⟨0x18, 5, []⟩ base), offered_of (by decide +kernel), settled_of (by decide +kernel),
     table_of (by decide +kernel), awake_of (by decide +kernel), by decide +kernel⟩⟩

theorem witness_EnquirePointMeetsTheSlot :
    (∃ s : State, Offered .ca ⟨0x19, 5, [0, 0]⟩ s ∧ Settled s ∧ (∀ n, s.auth.record ≠ .stabled n) ∧
      ((0 : Byte) ++ (0 : Byte)).toNat = 0) ∧
    (∃ s : State, Offered .ca ⟨0x19, 5, [16, 0]⟩ s ∧ Settled s ∧ (∀ n, s.auth.record ≠ .stabled n) ∧
      4095 < ((16 : Byte) ++ (0 : Byte)).toNat) ∧
    (∃ s : State, Offered .ca ⟨0x19, 5, [15, 255]⟩ s ∧ Settled s ∧ (∀ n, s.auth.record ≠ .stabled n) ∧
      ((15 : Byte) ++ (255 : Byte)).toNat = 4095 ∧ s.junction.enquiry = .free ∧
      (s.record 4095).map (·.lastReport) = some (some ⟨.left, .free, 499⟩)) ∧
    (∃ s : State, Offered .ca ⟨0x19, 5, [15, 255]⟩ s ∧ Settled s ∧ (∀ n, s.auth.record ≠ .stabled n) ∧
      s.junction.enquiry = .free ∧ (s.record 4095).map (·.lastReport) = some (some ⟨.left, .free, 500⟩) ∧
      s.wayside.sending.isSome = true) ∧
    (∃ s : State, Offered .ca ⟨0x19, 5, [0, 1]⟩ s ∧ Settled s ∧ (∀ n, s.auth.record ≠ .stabled n) ∧
      ((0 : Byte) ++ (1 : Byte)).toNat = 1 ∧ s.junction.enquiry = .free ∧ s.record 1 = none) ∧
    (∃ s : State, Offered .ca ⟨0x19, 5, [15, 255]⟩ s ∧ Settled s ∧ (∀ n, s.auth.record ≠ .stabled n) ∧
      s.junction.enquiry = .waiting 4095 9) ∧
    (∃ s : State, Offered .ca ⟨0x19, 5, [15, 255]⟩ s ∧ Settled s ∧ (∀ n, s.auth.record ≠ .stabled n) ∧
      s.junction.enquiry = .ready 4095 ⟨.left, .free, 499⟩ 9) ∧
    (∃ s : State, Offered .ca ⟨0x19, 5, [15, 255]⟩ s ∧ Settled s ∧ (∀ n, s.auth.record ≠ .stabled n) ∧
      s.junction.enquiry = .waiting 1 9 ∧ (1 : Nat) ≠ 4095) ∧
    (∃ s : State, Offered .ca ⟨0x19, 5, [15, 255]⟩ s ∧ Settled s ∧ (∀ n, s.auth.record ≠ .stabled n) ∧
      s.junction.enquiry = .ready 1 ⟨.left, .free, 499⟩ 9 ∧ (1 : Nat) ≠ 4095) :=
  ⟨⟨settle (asks .ca ⟨0x19, 5, [0, 0]⟩ base), offered_of (by decide +kernel), settled_of (by decide +kernel),
  awake_of (by decide +kernel), by decide +kernel⟩,
   ⟨settle (asks .ca ⟨0x19, 5, [16, 0]⟩ base), offered_of (by decide +kernel), settled_of (by decide +kernel),
     awake_of (by decide +kernel), by decide +kernel⟩,
   ⟨settle (table [{ record 4095 (some .left) .set with lastReport := some ⟨.left, .free, 499⟩ }] <| (asks .ca ⟨0x19,
     5, [15, 255]⟩ base)), offered_of (by decide +kernel), settled_of (by decide +kernel),
     awake_of (by decide +kernel), by decide +kernel⟩,
   ⟨settle (busy <| table [{ record 4095 (some .left) .set with lastReport := some ⟨.left, .free, 500⟩ }] <| (asks .ca ⟨0x19,
     5, [15, 255]⟩ base)), offered_of (by decide +kernel), settled_of (by decide +kernel),
     awake_of (by decide +kernel), by decide +kernel⟩,
   ⟨settle (busy <| (asks .ca ⟨0x19, 5, [0, 1]⟩ base)), offered_of (by decide +kernel),
     settled_of (by decide +kernel), awake_of (by decide +kernel), by decide +kernel⟩,
   ⟨settle (junc (fun x => { x with enquiry := .waiting 4095 9 }) <| (asks .ca ⟨0x19, 5, [15, 255]⟩ base)),
     offered_of (by decide +kernel), settled_of (by decide +kernel), awake_of (by decide +kernel), by decide +kernel⟩,
   ⟨settle (junc (fun x => { x with enquiry := .ready 4095 ⟨.left, .free, 499⟩ 9 }) <| (asks .ca ⟨0x19, 5, [15,
     255]⟩ base)), offered_of (by decide +kernel), settled_of (by decide +kernel), awake_of (by decide +kernel),
     by decide +kernel⟩,
   ⟨settle (junc (fun x => { x with enquiry := .waiting 1 9 }) <| (asks .ca ⟨0x19, 5, [15, 255]⟩ base)),
     offered_of (by decide +kernel), settled_of (by decide +kernel), awake_of (by decide +kernel), by decide +kernel⟩,
   ⟨settle (junc (fun x => { x with enquiry := .ready 1 ⟨.left, .free, 499⟩ 9 }) <| (asks .ca ⟨0x19, 5, [15,
     255]⟩ base)), offered_of (by decide +kernel), settled_of (by decide +kernel), awake_of (by decide +kernel),
     by decide +kernel⟩⟩

theorem witness_PlanClearEmptiesThePlan :
    (∃ s : State, Offered .vl ⟨0x21, 5, []⟩ s ∧ Settled s ∧ (∀ n, s.auth.record ≠ .stabled n) ∧
      s.junction.plan.length = 32) :=
  ⟨settle (junc (fun x => { x with plan := List.replicate 32 ⟨7, .left, 50, 5, 5⟩ }) <| (asks .vl ⟨0x21, 5, []⟩ base)),
  offered_of (by decide +kernel), settled_of (by decide +kernel), awake_of (by decide +kernel), by decide +kernel⟩

theorem witness_PlanAppendAddsAnEntry :
    (∃ s : State, Offered .vl ⟨0x20, 5, [0, 1, 1, 0, 50, 5, 5]⟩ s ∧ Settled s ∧ (∃ n, s.auth.record = .stabled n)) ∧
    (∃ s : State, Offered .vl ⟨0x20, 5, [0, 0, 1, 0, 50, 5, 5]⟩ s ∧ Settled s ∧ (∀ n, s.auth.record ≠ .stabled n) ∧
      (¬ ((1 ≤ ((0 : Byte) ++ (0 : Byte)).toNat ∧ ((0 : Byte) ++ (0 : Byte)).toNat ≤ 4095) ∧
      ((1 : Byte) = 1 ∨ (1 : Byte) = 2 ∨ (1 : Byte) = 3) ∧ (50 ≤ ((0 : Byte) ++ (50 : Byte)).toNat ∧
      ((0 : Byte) ++ (50 : Byte)).toNat ≤ 250) ∧ (5 ≤ (5 : Byte).toNat ∧ (5 : Byte).toNat ≤ 250) ∧
      (5 ≤ (5 : Byte).toNat ∧ (5 : Byte).toNat ≤ 60)))) ∧
    (∃ s : State, Offered .vl ⟨0x20, 5, [16, 0, 1, 0, 50, 5, 5]⟩ s ∧ Settled s ∧ (∀ n, s.auth.record ≠ .stabled n) ∧
      (¬ ((1 ≤ ((16 : Byte) ++ (0 : Byte)).toNat ∧ ((16 : Byte) ++ (0 : Byte)).toNat ≤ 4095) ∧
      ((1 : Byte) = 1 ∨ (1 : Byte) = 2 ∨ (1 : Byte) = 3) ∧ (50 ≤ ((0 : Byte) ++ (50 : Byte)).toNat ∧
      ((0 : Byte) ++ (50 : Byte)).toNat ≤ 250) ∧ (5 ≤ (5 : Byte).toNat ∧ (5 : Byte).toNat ≤ 250) ∧
      (5 ≤ (5 : Byte).toNat ∧ (5 : Byte).toNat ≤ 60)))) ∧
    (∃ s : State, Offered .vl ⟨0x20, 5, [0, 1, 0, 0, 50, 5, 5]⟩ s ∧ Settled s ∧ (∀ n, s.auth.record ≠ .stabled n) ∧
      (¬ ((1 ≤ ((0 : Byte) ++ (1 : Byte)).toNat ∧ ((0 : Byte) ++ (1 : Byte)).toNat ≤ 4095) ∧
      ((0 : Byte) = 1 ∨ (0 : Byte) = 2 ∨ (0 : Byte) = 3) ∧ (50 ≤ ((0 : Byte) ++ (50 : Byte)).toNat ∧
      ((0 : Byte) ++ (50 : Byte)).toNat ≤ 250) ∧ (5 ≤ (5 : Byte).toNat ∧ (5 : Byte).toNat ≤ 250) ∧
      (5 ≤ (5 : Byte).toNat ∧ (5 : Byte).toNat ≤ 60)))) ∧
    (∃ s : State, Offered .vl ⟨0x20, 5, [0, 1, 4, 0, 50, 5, 5]⟩ s ∧ Settled s ∧ (∀ n, s.auth.record ≠ .stabled n) ∧
      (¬ ((1 ≤ ((0 : Byte) ++ (1 : Byte)).toNat ∧ ((0 : Byte) ++ (1 : Byte)).toNat ≤ 4095) ∧
      ((4 : Byte) = 1 ∨ (4 : Byte) = 2 ∨ (4 : Byte) = 3) ∧ (50 ≤ ((0 : Byte) ++ (50 : Byte)).toNat ∧
      ((0 : Byte) ++ (50 : Byte)).toNat ≤ 250) ∧ (5 ≤ (5 : Byte).toNat ∧ (5 : Byte).toNat ≤ 250) ∧
      (5 ≤ (5 : Byte).toNat ∧ (5 : Byte).toNat ≤ 60)))) ∧
    (∃ s : State, Offered .vl ⟨0x20, 5, [0, 1, 1, 0, 49, 5, 5]⟩ s ∧ Settled s ∧ (∀ n, s.auth.record ≠ .stabled n) ∧
      (¬ ((1 ≤ ((0 : Byte) ++ (1 : Byte)).toNat ∧ ((0 : Byte) ++ (1 : Byte)).toNat ≤ 4095) ∧
      ((1 : Byte) = 1 ∨ (1 : Byte) = 2 ∨ (1 : Byte) = 3) ∧ (50 ≤ ((0 : Byte) ++ (49 : Byte)).toNat ∧
      ((0 : Byte) ++ (49 : Byte)).toNat ≤ 250) ∧ (5 ≤ (5 : Byte).toNat ∧ (5 : Byte).toNat ≤ 250) ∧
      (5 ≤ (5 : Byte).toNat ∧ (5 : Byte).toNat ≤ 60)))) ∧
    (∃ s : State, Offered .vl ⟨0x20, 5, [0, 1, 1, 0, 251, 5, 5]⟩ s ∧ Settled s ∧ (∀ n, s.auth.record ≠ .stabled n) ∧
      (¬ ((1 ≤ ((0 : Byte) ++ (1 : Byte)).toNat ∧ ((0 : Byte) ++ (1 : Byte)).toNat ≤ 4095) ∧
      ((1 : Byte) = 1 ∨ (1 : Byte) = 2 ∨ (1 : Byte) = 3) ∧ (50 ≤ ((0 : Byte) ++ (251 : Byte)).toNat ∧
      ((0 : Byte) ++ (251 : Byte)).toNat ≤ 250) ∧ (5 ≤ (5 : Byte).toNat ∧ (5 : Byte).toNat ≤ 250) ∧
      (5 ≤ (5 : Byte).toNat ∧ (5 : Byte).toNat ≤ 60)))) ∧
    (∃ s : State, Offered .vl ⟨0x20, 5, [0, 1, 1, 0, 50, 4, 5]⟩ s ∧ Settled s ∧ (∀ n, s.auth.record ≠ .stabled n) ∧
      (¬ ((1 ≤ ((0 : Byte) ++ (1 : Byte)).toNat ∧ ((0 : Byte) ++ (1 : Byte)).toNat ≤ 4095) ∧
      ((1 : Byte) = 1 ∨ (1 : Byte) = 2 ∨ (1 : Byte) = 3) ∧ (50 ≤ ((0 : Byte) ++ (50 : Byte)).toNat ∧
      ((0 : Byte) ++ (50 : Byte)).toNat ≤ 250) ∧ (5 ≤ (4 : Byte).toNat ∧ (4 : Byte).toNat ≤ 250) ∧
      (5 ≤ (5 : Byte).toNat ∧ (5 : Byte).toNat ≤ 60)))) ∧
    (∃ s : State, Offered .vl ⟨0x20, 5, [0, 1, 1, 0, 50, 251, 5]⟩ s ∧ Settled s ∧ (∀ n, s.auth.record ≠ .stabled n) ∧
      (¬ ((1 ≤ ((0 : Byte) ++ (1 : Byte)).toNat ∧ ((0 : Byte) ++ (1 : Byte)).toNat ≤ 4095) ∧
      ((1 : Byte) = 1 ∨ (1 : Byte) = 2 ∨ (1 : Byte) = 3) ∧ (50 ≤ ((0 : Byte) ++ (50 : Byte)).toNat ∧
      ((0 : Byte) ++ (50 : Byte)).toNat ≤ 250) ∧ (5 ≤ (251 : Byte).toNat ∧ (251 : Byte).toNat ≤ 250) ∧
      (5 ≤ (5 : Byte).toNat ∧ (5 : Byte).toNat ≤ 60)))) ∧
    (∃ s : State, Offered .vl ⟨0x20, 5, [0, 1, 1, 0, 50, 5, 4]⟩ s ∧ Settled s ∧ (∀ n, s.auth.record ≠ .stabled n) ∧
      (¬ ((1 ≤ ((0 : Byte) ++ (1 : Byte)).toNat ∧ ((0 : Byte) ++ (1 : Byte)).toNat ≤ 4095) ∧
      ((1 : Byte) = 1 ∨ (1 : Byte) = 2 ∨ (1 : Byte) = 3) ∧ (50 ≤ ((0 : Byte) ++ (50 : Byte)).toNat ∧
      ((0 : Byte) ++ (50 : Byte)).toNat ≤ 250) ∧ (5 ≤ (5 : Byte).toNat ∧ (5 : Byte).toNat ≤ 250) ∧
      (5 ≤ (4 : Byte).toNat ∧ (4 : Byte).toNat ≤ 60)))) ∧
    (∃ s : State, Offered .vl ⟨0x20, 5, [0, 1, 1, 0, 50, 5, 61]⟩ s ∧ Settled s ∧ (∀ n, s.auth.record ≠ .stabled n) ∧
      (¬ ((1 ≤ ((0 : Byte) ++ (1 : Byte)).toNat ∧ ((0 : Byte) ++ (1 : Byte)).toNat ≤ 4095) ∧
      ((1 : Byte) = 1 ∨ (1 : Byte) = 2 ∨ (1 : Byte) = 3) ∧ (50 ≤ ((0 : Byte) ++ (50 : Byte)).toNat ∧
      ((0 : Byte) ++ (50 : Byte)).toNat ≤ 250) ∧ (5 ≤ (5 : Byte).toNat ∧ (5 : Byte).toNat ≤ 250) ∧
      (5 ≤ (61 : Byte).toNat ∧ (61 : Byte).toNat ≤ 60)))) ∧
    (∃ s : State, Offered .vl ⟨0x20, 5, [15, 255, 3, 0, 250, 250, 60]⟩ s ∧ Settled s ∧ (∀ n,
      s.auth.record ≠ .stabled n) ∧ (((1 ≤ ((15 : Byte) ++ (255 : Byte)).toNat ∧
      ((15 : Byte) ++ (255 : Byte)).toNat ≤ 4095) ∧ ((3 : Byte) = 1 ∨ (3 : Byte) = 2 ∨ (3 : Byte) = 3) ∧
      (50 ≤ ((0 : Byte) ++ (250 : Byte)).toNat ∧ ((0 : Byte) ++ (250 : Byte)).toNat ≤ 250) ∧ (5 ≤ (250 : Byte).toNat ∧
      (250 : Byte).toNat ≤ 250) ∧ (5 ≤ (60 : Byte).toNat ∧ (60 : Byte).toNat ≤ 60))) ∧ 32 ≤ s.junction.plan.length) ∧
    (∃ s : State, Offered .vl ⟨0x20, 5, [15, 255, 3, 0, 250, 250, 60]⟩ s ∧ Settled s ∧ (∀ n,
      s.auth.record ≠ .stabled n) ∧ (((1 ≤ ((15 : Byte) ++ (255 : Byte)).toNat ∧
      ((15 : Byte) ++ (255 : Byte)).toNat ≤ 4095) ∧ ((3 : Byte) = 1 ∨ (3 : Byte) = 2 ∨ (3 : Byte) = 3) ∧
      (50 ≤ ((0 : Byte) ++ (250 : Byte)).toNat ∧ ((0 : Byte) ++ (250 : Byte)).toNat ≤ 250) ∧ (5 ≤ (250 : Byte).toNat ∧
      (250 : Byte).toNat ≤ 250) ∧ (5 ≤ (60 : Byte).toNat ∧ (60 : Byte).toNat ≤ 60))) ∧ s.junction.plan.length < 32) ∧
    (∃ s : State, Offered .vl ⟨0x20, 5, [0, 1, 1, 0, 50, 5, 5]⟩ s ∧ Settled s ∧ (∀ n, s.auth.record ≠ .stabled n) ∧
      (((1 ≤ ((0 : Byte) ++ (1 : Byte)).toNat ∧ ((0 : Byte) ++ (1 : Byte)).toNat ≤ 4095) ∧
      ((1 : Byte) = 1 ∨ (1 : Byte) = 2 ∨ (1 : Byte) = 3) ∧ (50 ≤ ((0 : Byte) ++ (50 : Byte)).toNat ∧
      ((0 : Byte) ++ (50 : Byte)).toNat ≤ 250) ∧ (5 ≤ (5 : Byte).toNat ∧ (5 : Byte).toNat ≤ 250) ∧
      (5 ≤ (5 : Byte).toNat ∧ (5 : Byte).toNat ≤ 60))) ∧ s.junction.plan.length < 32) :=
  ⟨⟨settle (auth (.stabled 0) <| (asks .vl ⟨0x20, 5, [0, 1, 1, 0, 50, 5, 5]⟩ base)), offered_of (by decide +kernel),
  settled_of (by decide +kernel), stabled_of 0 (by decide +kernel)⟩,
   ⟨settle (asks .vl ⟨0x20, 5, [0, 0, 1, 0, 50, 5, 5]⟩ base), offered_of (by decide +kernel),
     settled_of (by decide +kernel), awake_of (by decide +kernel), by decide +kernel⟩,
   ⟨settle (asks .vl ⟨0x20, 5, [16, 0, 1, 0, 50, 5, 5]⟩ base), offered_of (by decide +kernel),
     settled_of (by decide +kernel), awake_of (by decide +kernel), by decide +kernel⟩,
   ⟨settle (asks .vl ⟨0x20, 5, [0, 1, 0, 0, 50, 5, 5]⟩ base), offered_of (by decide +kernel),
     settled_of (by decide +kernel), awake_of (by decide +kernel), by decide +kernel⟩,
   ⟨settle (asks .vl ⟨0x20, 5, [0, 1, 4, 0, 50, 5, 5]⟩ base), offered_of (by decide +kernel),
     settled_of (by decide +kernel), awake_of (by decide +kernel), by decide +kernel⟩,
   ⟨settle (asks .vl ⟨0x20, 5, [0, 1, 1, 0, 49, 5, 5]⟩ base), offered_of (by decide +kernel),
     settled_of (by decide +kernel), awake_of (by decide +kernel), by decide +kernel⟩,
   ⟨settle (asks .vl ⟨0x20, 5, [0, 1, 1, 0, 251, 5, 5]⟩ base), offered_of (by decide +kernel),
     settled_of (by decide +kernel), awake_of (by decide +kernel), by decide +kernel⟩,
   ⟨settle (asks .vl ⟨0x20, 5, [0, 1, 1, 0, 50, 4, 5]⟩ base), offered_of (by decide +kernel),
     settled_of (by decide +kernel), awake_of (by decide +kernel), by decide +kernel⟩,
   ⟨settle (asks .vl ⟨0x20, 5, [0, 1, 1, 0, 50, 251, 5]⟩ base), offered_of (by decide +kernel),
     settled_of (by decide +kernel), awake_of (by decide +kernel), by decide +kernel⟩,
   ⟨settle (asks .vl ⟨0x20, 5, [0, 1, 1, 0, 50, 5, 4]⟩ base), offered_of (by decide +kernel),
     settled_of (by decide +kernel), awake_of (by decide +kernel), by decide +kernel⟩,
   ⟨settle (asks .vl ⟨0x20, 5, [0, 1, 1, 0, 50, 5, 61]⟩ base), offered_of (by decide +kernel),
     settled_of (by decide +kernel), awake_of (by decide +kernel), by decide +kernel⟩,
   ⟨settle (junc (fun x => { x with plan := List.replicate 32 ⟨7, .left, 50, 5, 5⟩ }) <| (asks .vl ⟨0x20, 5, [15, 255,
     3, 0, 250, 250, 60]⟩ base)), offered_of (by decide +kernel), settled_of (by decide +kernel),
     awake_of (by decide +kernel), by decide +kernel⟩,
   ⟨settle (junc (fun x => { x with plan := List.replicate 31 ⟨7, .left, 50, 5, 5⟩ }) <| (asks .vl ⟨0x20, 5, [15, 255,
     3, 0, 250, 250, 60]⟩ base)), offered_of (by decide +kernel), settled_of (by decide +kernel),
     awake_of (by decide +kernel), by decide +kernel⟩,
   ⟨settle (asks .vl ⟨0x20, 5, [0, 1, 1, 0, 50, 5, 5]⟩ base), offered_of (by decide +kernel),
     settled_of (by decide +kernel), awake_of (by decide +kernel), by decide +kernel⟩⟩

theorem witness_ReadEventTakesTheOldest :
    (∃ s : State, Offered .vl ⟨0x22, 5, []⟩ s ∧ Settled s ∧ s.vl.events = [⟨.doorsClosed, 1, 2, false⟩]) ∧
    (∃ s : State, Offered .vl ⟨0x22, 5, []⟩ s ∧ Settled s ∧ s.vl.events = []) :=
  ⟨⟨settle (auth (.stabled 7) <| vl (fun x => { x with events := [⟨.doorsClosed, 1, 2, false⟩] }) <| (asks .vl ⟨0x22, 5,
  []⟩ base)), offered_of (by decide +kernel), settled_of (by decide +kernel), by decide +kernel⟩,
   ⟨settle (asks .vl ⟨0x22, 5, []⟩ base), offered_of (by decide +kernel), settled_of (by decide +kernel),
     by decide +kernel⟩⟩

theorem witness_CommandSourceAppliesAndReleases :
    (∃ s : State, Offered .vl ⟨0x23, 5, []⟩ s ∧ Settled s ∧ (∃ n, s.auth.record = .stabled n)) ∧
    (∃ s : State, Offered .vl ⟨0x24, 5, []⟩ s ∧ Settled s ∧ (∃ n, s.auth.record = .stabled n)) ∧
    (∃ s : State, Offered .vl ⟨0x23, 5, []⟩ s ∧ Settled s ∧ (∀ n, s.auth.record ≠ .stabled n) ∧ s.emerg.recorded = 0) ∧
    (∃ s : State, Offered .vl ⟨0x23, 5, []⟩ s ∧ Settled s ∧ (∀ n, s.auth.record ≠ .stabled n) ∧ s.emerg.recorded ≠ 0 ∧
      s.emerg.recorded.getLsbD 9 = false) ∧
    (∃ s : State, Offered .vl ⟨0x23, 5, []⟩ s ∧ Settled s ∧ (∀ n, s.auth.record ≠ .stabled n) ∧
      s.emerg.recorded.getLsbD 9 = true) ∧
    (∃ s : State, Offered .vl ⟨0x24, 5, []⟩ s ∧ Settled s ∧ (∀ n, s.auth.record ≠ .stabled n) ∧
      s.emerg.commandHold = true) ∧
    (∃ s : State, Offered .vl ⟨0x24, 5, []⟩ s ∧ Settled s ∧ (∀ n, s.auth.record ≠ .stabled n) ∧
      s.emerg.commandHold = false) :=
  ⟨⟨settle (auth (.stabled 0) <| (asks .vl ⟨0x23, 5, []⟩ base)), offered_of (by decide +kernel),
  settled_of (by decide +kernel), stabled_of 0 (by decide +kernel)⟩,
   ⟨settle (auth (.stabled 0) <| (asks .vl ⟨0x24, 5, []⟩ base)), offered_of (by decide +kernel),
     settled_of (by decide +kernel), stabled_of 0 (by decide +kernel)⟩,
   ⟨settle (asks .vl ⟨0x23, 5, []⟩ base), offered_of (by decide +kernel), settled_of (by decide +kernel),
     awake_of (by decide +kernel), by decide +kernel⟩,
   ⟨settle (latched .lever <| (asks .vl ⟨0x23, 5, []⟩ base)), offered_of (by decide +kernel),
     settled_of (by decide +kernel), awake_of (by decide +kernel), by decide +kernel⟩,
   ⟨settle (latched .command <| (asks .vl ⟨0x23, 5, []⟩ base)), offered_of (by decide +kernel),
     settled_of (by decide +kernel), awake_of (by decide +kernel), by decide +kernel⟩,
   ⟨settle (emerg (fun x => { x with commandHold := true }) <| (asks .vl ⟨0x24, 5, []⟩ base)),
     offered_of (by decide +kernel), settled_of (by decide +kernel), awake_of (by decide +kernel), by decide +kernel⟩,
   ⟨settle (asks .vl ⟨0x24, 5, []⟩ base), offered_of (by decide +kernel), settled_of (by decide +kernel),
     awake_of (by decide +kernel), by decide +kernel⟩⟩

theorem witness_SendTelegramQueuesOnVx :
    (∃ s : State, Offered .vl ⟨0x25, 5, [1, 2, 3, 4, 5, 6]⟩ s ∧ Settled s ∧ (∀ n, s.auth.record ≠ .stabled n) ∧
      s.wayside.vx.length < 4 ∧ s.wayside.sending.isSome = true) ∧
    (∃ s : State, Offered .vl ⟨0x25, 5, [1, 2, 3, 4, 5, 6]⟩ s ∧ Settled s ∧ (∀ n, s.auth.record ≠ .stabled n) ∧
      s.wayside.vx.length < 4 ∧ s.wayside.sending = none ∧ s.wayside.jr = [] ∧ s.wayside.jq = [] ∧ s.wayside.sp = [] ∧
      s.wayside.vx = []) ∧
    (∃ s : State, Offered .vl ⟨0x25, 5, [1, 2, 3, 4, 5, 6]⟩ s ∧ Settled s ∧ (∀ n, s.auth.record ≠ .stabled n) ∧
      4 ≤ s.wayside.vx.length) :=
  ⟨⟨settle (busy <| way (fun x => { x with vx := List.replicate 3 [1, 2, 3, 4, 5, 6] }) <| (asks .vl ⟨0x25, 5, [1, 2, 3,
  4, 5, 6]⟩ base)), offered_of (by decide +kernel), settled_of (by decide +kernel), awake_of (by decide +kernel),
  by decide +kernel⟩,
   ⟨settle (asks .vl ⟨0x25, 5, [1, 2, 3, 4, 5, 6]⟩ base), offered_of (by decide +kernel),
     settled_of (by decide +kernel), awake_of (by decide +kernel), by decide +kernel⟩,
   ⟨settle (way (fun x => { x with vx := List.replicate 4 [1, 2, 3, 4, 5, 6] }) <| (asks .vl ⟨0x25, 5, [1, 2, 3, 4, 5,
     6]⟩ base)), offered_of (by decide +kernel), settled_of (by decide +kernel), awake_of (by decide +kernel),
     by decide +kernel⟩⟩

theorem witness_StableLaysThePartUp :
    (∃ s : State, Offered .vl ⟨0x27, 5, [7]⟩ s ∧ Settled s ∧ (7 : Byte).toNat ≤ 7 ∧ s.auth.record = .dark ∧
      s.speed.standstill = true ∧ s.pins.key.a = false ∧ s.pins.key.b = false ∧ s.consist.state = .single ∧
      s.consist.role = none) ∧
    (∃ s : State, Offered .vl ⟨0x27, 5, [7]⟩ s ∧ Settled s ∧ Paired s ∧ ConsistSound s ∧ s.auth.record = .dark ∧
      s.speed.standstill = true ∧ s.pins.key.a = false ∧ s.pins.key.b = false) ∧
    (∃ s : State, Offered .vl ⟨0x27, 5, [7]⟩ s ∧ Settled s ∧ (∃ n, s.auth.record = .stabled n)) ∧
    (∃ s : State, Offered .vl ⟨0x27, 5, [8]⟩ s ∧ Settled s ∧ (∀ n, s.auth.record ≠ .stabled n) ∧ 7 < (8 : Byte).toNat) ∧
    (∃ s : State, Offered .vl ⟨0x27, 5, [7]⟩ s ∧ Settled s ∧ (∀ n, s.auth.record ≠ .stabled n) ∧
      s.auth.record ≠ .dark) ∧
    (∃ s : State, Offered .vl ⟨0x27, 5, [7]⟩ s ∧ Settled s ∧ (∀ n, s.auth.record ≠ .stabled n) ∧
      s.auth.record = .dark ∧ s.speed.standstill = false) ∧
    (∃ s : State, Offered .vl ⟨0x27, 5, [7]⟩ s ∧ Settled s ∧ (∀ n, s.auth.record ≠ .stabled n) ∧
      s.auth.record = .dark ∧ s.speed.standstill = true ∧ (s.pins.key.a || s.pins.key.b) = true) ∧
    (∃ s : State, Offered .vl ⟨0x27, 5, [7]⟩ s ∧ Settled s ∧ (∀ n, s.auth.record ≠ .stabled n) ∧
      s.auth.record = .dark ∧ s.speed.standstill = true ∧ s.pins.key.a = false ∧ s.pins.key.b = false ∧
      s.consist.state ≠ .single ∧ ¬ (s.consist.state = .coupled ∧ s.consist.role = some .neutral)) :=
  ⟨⟨settle (pins (fun x => { x with key := ⟨false, false⟩ }) <| (asks .vl ⟨0x27, 5, [7]⟩ base)),
  offered_of (by decide +kernel), settled_of (by decide +kernel), by decide +kernel⟩,
   ⟨settle (pins (fun x => { x with key := ⟨false, false⟩ }) <| coupled .neutral <| (asks .vl ⟨0x27, 5, [7]⟩ base)),
     offered_of (by decide +kernel), settled_of (by decide +kernel), paired_of (by decide +kernel),
     consist_of (by decide +kernel) (by decide +kernel) (by decide +kernel), by decide +kernel⟩,
   ⟨settle (auth (.stabled 0) <| (asks .vl ⟨0x27, 5, [7]⟩ base)), offered_of (by decide +kernel),
     settled_of (by decide +kernel), stabled_of 0 (by decide +kernel)⟩,
   ⟨settle (asks .vl ⟨0x27, 5, [8]⟩ base), offered_of (by decide +kernel), settled_of (by decide +kernel),
     awake_of (by decide +kernel), by decide +kernel⟩,
   ⟨settle (auth (.parked .a 1) <| (asks .vl ⟨0x27, 5, [7]⟩ base)), offered_of (by decide +kernel),
     settled_of (by decide +kernel), awake_of (by decide +kernel), by decide +kernel⟩,
   ⟨settle (fast 5 <| (asks .vl ⟨0x27, 5, [7]⟩ base)), offered_of (by decide +kernel), settled_of (by decide +kernel),
     awake_of (by decide +kernel), by decide +kernel⟩,
   ⟨settle (asks .vl ⟨0x27, 5, [7]⟩ base), offered_of (by decide +kernel), settled_of (by decide +kernel),
     awake_of (by decide +kernel), by decide +kernel⟩,
   ⟨settle (pins (fun x => { x with key := ⟨false, false⟩ }) <| consist ⟨.joining, none, some (2, 1), 1, some frame,
     some 50, some .b, none⟩ <| (asks .vl ⟨0x27, 5, [7]⟩ base)), offered_of (by decide +kernel),
     settled_of (by decide +kernel), awake_of (by decide +kernel), by decide +kernel⟩⟩

theorem witness_WakeWakesBelowFive :
    (∃ s : State, Offered .vl ⟨0x28, 5, []⟩ s ∧ Settled s ∧ (∀ n, s.auth.record ≠ .stabled n)) ∧
    (∃ s : State, Offered .vl ⟨0x28, 5, []⟩ s ∧ Settled s ∧ s.auth.record = .stabled 5 ∧ 5 ≤ 5) ∧
    (∃ s : State, Offered .vl ⟨0x28, 5, []⟩ s ∧ Settled s ∧ ConsistSound s ∧ s.auth.record = .stabled 4 ∧ 4 < 5 ∧
      s.pins.passengerClosed = true) ∧
    (∃ s : State, Offered .vl ⟨0x28, 5, []⟩ s ∧ Settled s ∧ ConsistSound s ∧ s.auth.record = .stabled 0 ∧ 0 < 5 ∧
      s.pins.passengerClosed = false) :=
  ⟨⟨settle (asks .vl ⟨0x28, 5, []⟩ base), offered_of (by decide +kernel), settled_of (by decide +kernel),
  awake_of (by decide +kernel)⟩,
   ⟨settle (auth (.stabled 5) <| (asks .vl ⟨0x28, 5, []⟩ base)), offered_of (by decide +kernel),
     settled_of (by decide +kernel), by decide +kernel⟩,
   ⟨settle (auth (.stabled 4) <| (asks .vl ⟨0x28, 5, []⟩ base)), offered_of (by decide +kernel),
     settled_of (by decide +kernel), consist_of (by decide +kernel) (by decide +kernel) (by decide +kernel),
     by decide +kernel⟩,
   ⟨settle (auth (.stabled 0) <| pins (fun x => { x with passengerClosed := false }) <| (asks .vl ⟨0x28, 5,
     []⟩ base)), offered_of (by decide +kernel), settled_of (by decide +kernel),
     consist_of (by decide +kernel) (by decide +kernel) (by decide +kernel), by decide +kernel⟩⟩

theorem witness_SoundTestPlacesARequest :
    (∃ s : State, Offered .vl ⟨0x29, 5, [2, 2]⟩ s ∧ Settled s ∧ (∀ n, s.auth.record ≠ .stabled n) ∧
      s.auth.record = .dark ∧ s.vl.quiet = true ∧ s.sound.patterns[2].priority < 4) ∧
    (∃ s : State, Offered .vl ⟨0x29, 5, [0, 15]⟩ s ∧ Settled s ∧ (∀ n, s.auth.record ≠ .stabled n) ∧
      ChannelSound s.sound.patterns (s.sound.channels.get .bell) ∧ s.auth.record = .dark ∧
      (s.sound.channels.get .bell).playing = none) ∧
    (∃ s : State, Offered .vl ⟨0x29, 5, [1, 1]⟩ s ∧ Settled s ∧ (∀ n, s.auth.record ≠ .stabled n) ∧
      ChannelSound s.sound.patterns (s.sound.channels.get .horn) ∧ s.auth.record = .dark ∧
      (s.sound.channels.get .horn).playing = some ⟨.manualHorn, 0, 1, 0, 0, true⟩ ∧
      (s.sound.channels.get .horn).holds .test = false ∧ s.sound.patterns[0].priority < s.sound.patterns[1].priority) ∧
    (∃ s : State, Offered .vl ⟨0x29, 5, [0, 0]⟩ s ∧ Settled s ∧ (∀ n, s.auth.record ≠ .stabled n) ∧
      ChannelSound s.sound.patterns (s.sound.channels.get .bell) ∧ s.auth.record = .dark ∧
      (s.sound.channels.get .bell).playing = some ⟨.manualBell, 0, 1, 0, 0, true⟩ ∧
      (s.sound.channels.get .bell).holds .test = false ∧ s.sound.patterns[0].priority ≤ s.sound.patterns[0].priority ∧
      (s.sound.channels.get .bell).waiting.length < 3) ∧
    (∃ s : State, Offered .vl ⟨0x29, 5, [0, 15]⟩ s ∧ Settled s ∧ (∀ n, s.auth.record ≠ .stabled n) ∧
      ChannelSound s.sound.patterns (s.sound.channels.get .bell) ∧ s.auth.record = .dark ∧
      (s.sound.channels.get .bell).playing = some ⟨.manualBell, 1, 1, 0, 0, true⟩ ∧
      (s.sound.channels.get .bell).waiting.length = 3 ∧ (∀ y ∈ (s.sound.channels.get .bell).waiting,
      s.sound.patterns[15].priority < s.sound.patterns[y.pattern].priority) ∧
      (s.sound.channels.get .bell).holds .test = false) ∧
    (∃ s : State, Offered .vl ⟨0x29, 5, [0, 255]⟩ s ∧ Settled s ∧ (∀ n, s.auth.record ≠ .stabled n) ∧
      ChannelSound s.sound.patterns (s.sound.channels.get .bell) ∧ s.auth.record = .dark ∧
      (s.sound.channels.get .bell).holds .test = true) ∧
    (∃ s : State, Offered .vl ⟨0x29, 5, [4, 255]⟩ s ∧ Settled s ∧ (∀ n, s.auth.record ≠ .stabled n) ∧
      ChannelSound s.sound.patterns (s.sound.channels.get .buzzerB) ∧ s.auth.record = .dark ∧
      (s.sound.channels.get .buzzerB).holds .test = false) ∧
    (∃ s : State, Offered .vl ⟨0x29, 5, [3, 15]⟩ s ∧ Settled s ∧ (∀ n, s.auth.record ≠ .stabled n) ∧
      s.auth.record ≠ .dark ∧ (15 : Byte).toNat < 16) ∧
    (∃ s : State, Offered .vl ⟨0x29, 5, [3, 16]⟩ s ∧ Settled s ∧ (∀ n, s.auth.record ≠ .stabled n) ∧
      16 ≤ (16 : Byte).toNat ∧ (16 : Byte) ≠ 0xFF) ∧
    (∃ s : State, Offered .vl ⟨0x29, 5, [0, 0]⟩ s ∧ Settled s ∧ (∃ n, s.auth.record = .stabled n)) ∧
    (∃ s : State, Offered .vl ⟨0x29, 5, [5, 0]⟩ s ∧ Settled s ∧ (∀ n, s.auth.record ≠ .stabled n) ∧
      5 ≤ (5 : Byte).toNat) ∧
    (∃ s : State, Offered .vl ⟨0x29, 5, [0, 15]⟩ s ∧ Settled s ∧ (∀ n, s.auth.record ≠ .stabled n) ∧
      ChannelSound s.sound.patterns (s.sound.channels.get .bell) ∧ s.auth.record = .dark ∧
      (s.sound.channels.get .bell).playing = some ⟨.manualBell, 1, 1, 0, 0, true⟩ ∧
      (s.sound.channels.get .bell).holds .test = false ∧
      s.sound.patterns[15].priority ≤ s.sound.patterns[1].priority ∧ (s.sound.channels.get .bell).waiting.length = 3 ∧
      (∀ y ∈ (s.sound.channels.get .bell).waiting,
      s.sound.patterns[15].priority ≤ s.sound.patterns[y.pattern].priority ∧ y.age < s.sound.joins)) ∧
    (∃ s : State, Offered .vl ⟨0x29, 5, [0, 0]⟩ s ∧ Settled s ∧ (∀ n, s.auth.record ≠ .stabled n) ∧
      ChannelSound s.sound.patterns (s.sound.channels.get .bell) ∧ s.auth.record = .dark ∧
      (s.sound.channels.get .bell).playing = some ⟨.manualBell, 1, 1, 0, 0, true⟩ ∧
      (s.sound.channels.get .bell).holds .test = false ∧ s.sound.patterns[0].priority ≤ s.sound.patterns[1].priority ∧
      (s.sound.channels.get .bell).waiting.length = 3 ∧ (∃ y ∈ (s.sound.channels.get .bell).waiting,
      s.sound.patterns[y.pattern].priority < s.sound.patterns[0].priority)) ∧
    (∃ s : State, Offered .vl ⟨0x29, 5, [0, 0]⟩ s ∧ Settled s ∧ (∀ n, s.auth.record ≠ .stabled n) ∧
      ChannelSound s.sound.patterns (s.sound.channels.get .bell) ∧ s.auth.record = .dark ∧
      (s.sound.channels.get .bell).playing = some ⟨.test, 1, 1, 0, 0, true⟩) ∧
    (∃ s : State, Offered .vl ⟨0x29, 5, [0, 0]⟩ s ∧ Settled s ∧ (∀ n, s.auth.record ≠ .stabled n) ∧
      ChannelSound s.sound.patterns (s.sound.channels.get .bell) ∧ s.auth.record = .dark ∧
      (s.sound.channels.get .bell).playing = some ⟨.manualBell, 7, 1, 0, 0, true⟩ ∧ ⟨.test, 1, 1, 0, 1,
      true⟩ ∈ (s.sound.channels.get .bell).waiting) :=
  ⟨⟨settle (vl (fun x => { x with quiet := true }) <| (asks .vl ⟨0x29, 5, [2, 2]⟩ base)), offered_of (by decide +kernel),
  settled_of (by decide +kernel), awake_of (by decide +kernel), by decide +kernel⟩,
   ⟨settle (asks .vl ⟨0x29, 5, [0, 15]⟩ base), offered_of (by decide +kernel), settled_of (by decide +kernel),
     awake_of (by decide +kernel), (sounds_of (by decide +kernel) .bell), by decide +kernel⟩,
   ⟨settle (sound (fun x => { x with channels := { x.channels with horn := ⟨some ⟨.manualHorn, 0, 1, 0, 0, true⟩, 50, []⟩ } }) <| (asks .vl ⟨0x29,
     5, [1, 1]⟩ base)), offered_of (by decide +kernel), settled_of (by decide +kernel), awake_of (by decide +kernel),
     (sounds_of (by decide +kernel) .horn), by decide +kernel⟩,
   ⟨settle (sound (fun x => { x with channels := { x.channels with bell := ⟨some ⟨.manualBell, 0, 1, 0, 0, true⟩, 50, []⟩ } }) <| (asks .vl ⟨0x29,
     5, [0, 0]⟩ base)), offered_of (by decide +kernel), settled_of (by decide +kernel), awake_of (by decide +kernel),
     (sounds_of (by decide +kernel) .bell), by decide +kernel⟩,
   ⟨settle (sound (fun x => { x with channels := { x.channels with bell := ⟨some ⟨.manualBell, 1, 1, 0, 0, true⟩, 50, [⟨.emergency, 7, 1, 0, 1, true⟩, ⟨.mirror, 1, 1, 0, 2, true⟩, ⟨.speedBand, 6, 1, 0, 3, true⟩]⟩ } }) <| (asks .vl ⟨0x29,
     5, [0, 15]⟩ base)), offered_of (by decide +kernel), settled_of (by decide +kernel), awake_of (by decide +kernel),
     (sounds_of (by decide +kernel) .bell), by decide +kernel⟩,
   ⟨settle (sound (fun x => { x with channels := { x.channels with bell := ⟨some ⟨.test, 0, 1, 0, 0, true⟩, 50, []⟩ } }) <| (asks .vl ⟨0x29,
     5, [0, 255]⟩ base)), offered_of (by decide +kernel), settled_of (by decide +kernel),
     awake_of (by decide +kernel), (sounds_of (by decide +kernel) .bell), by decide +kernel⟩,
   ⟨settle (asks .vl ⟨0x29, 5, [4, 255]⟩ base), offered_of (by decide +kernel), settled_of (by decide +kernel),
     awake_of (by decide +kernel), (sounds_of (by decide +kernel) .buzzerB), by decide +kernel⟩,
   ⟨settle (auth (.active .a) <| (asks .vl ⟨0x29, 5, [3, 15]⟩ base)), offered_of (by decide +kernel),
     settled_of (by decide +kernel), awake_of (by decide +kernel), by decide +kernel⟩,
   ⟨settle (asks .vl ⟨0x29, 5, [3, 16]⟩ base), offered_of (by decide +kernel), settled_of (by decide +kernel),
     awake_of (by decide +kernel), by decide +kernel⟩,
   ⟨settle (auth (.stabled 0) <| (asks .vl ⟨0x29, 5, [0, 0]⟩ base)), offered_of (by decide +kernel),
     settled_of (by decide +kernel), stabled_of 0 (by decide +kernel)⟩,
   ⟨settle (asks .vl ⟨0x29, 5, [5, 0]⟩ base), offered_of (by decide +kernel), settled_of (by decide +kernel),
     awake_of (by decide +kernel), by decide +kernel⟩,
   ⟨settle (sound (fun x => { x with joins := 4 }) <| sound (fun x => { x with channels := { x.channels with bell := ⟨some ⟨.manualBell, 1, 1, 0, 0, true⟩, 50, [⟨.emergency, 1, 1, 0, 1, true⟩, ⟨.mirror, 1, 1, 0, 2, true⟩, ⟨.speedBand, 1, 1, 0, 3, true⟩]⟩ } }) <| (asks .vl ⟨0x29,
     5, [0, 15]⟩ base)), offered_of (by decide +kernel), settled_of (by decide +kernel), awake_of (by decide +kernel),
     (sounds_of (by decide +kernel) .bell), by decide +kernel⟩,
   ⟨settle (sound (fun x => { x with channels := { x.channels with bell := ⟨some ⟨.manualBell, 1, 1, 0, 0, true⟩, 50, [⟨.emergency, 7, 1, 0, 1, true⟩, ⟨.mirror, 1, 1, 0, 2, true⟩, ⟨.speedBand, 15, 1, 0, 3, true⟩]⟩ } }) <| (asks .vl ⟨0x29,
     5, [0, 0]⟩ base)), offered_of (by decide +kernel), settled_of (by decide +kernel), awake_of (by decide +kernel),
     (sounds_of (by decide +kernel) .bell), by decide +kernel⟩,
   ⟨settle (sound (fun x => { x with channels := { x.channels with bell := ⟨some ⟨.test, 1, 1, 0, 0, true⟩, 50, []⟩ } }) <| (asks .vl ⟨0x29,
     5, [0, 0]⟩ base)), offered_of (by decide +kernel), settled_of (by decide +kernel), awake_of (by decide +kernel),
     (sounds_of (by decide +kernel) .bell), by decide +kernel⟩,
   ⟨settle (sound (fun x => { x with channels := { x.channels with bell := ⟨some ⟨.manualBell, 7, 1, 0, 0, true⟩, 50, [⟨.test, 1, 1, 0, 1, true⟩]⟩ } }) <| (asks .vl ⟨0x29,
     5, [0, 0]⟩ base)), offered_of (by decide +kernel), settled_of (by decide +kernel), awake_of (by decide +kernel),
     (sounds_of (by decide +kernel) .bell), by decide +kernel⟩⟩

theorem witness_NoticeFlagCommands :
    (∃ s : State, Offered .vl ⟨0x2A, 5, [127, 255]⟩ s ∧ Settled s ∧ ((127 : Byte) ++ (255 : Byte)).getLsbD 15 = false) ∧
    (∃ s : State, Offered .vl ⟨0x2B, 5, [127, 255]⟩ s ∧ Settled s ∧ (∀ n, s.auth.record ≠ .stabled n) ∧
      ((127 : Byte) ++ (255 : Byte)).getLsbD 15 = false) ∧
    (∃ s : State, Offered .vl ⟨0x2C, 5, [0, 1]⟩ s ∧ Settled s ∧ ((0 : Byte) ++ (1 : Byte)).getLsbD 15 = false ∧
      s.auth.record = .dark ∧ ((0 : Byte) ++ (1 : Byte)) &&& ~~~s.vl.flags &&& s.vl.mask ≠ 0) ∧
    (∃ s : State, Offered .vl ⟨0x2A, 5, [128, 0]⟩ s ∧ Settled s ∧ ((128 : Byte) ++ (0 : Byte)).getLsbD 15 = true) ∧
    (∃ s : State, Offered .vl ⟨0x2B, 5, [128, 0]⟩ s ∧ Settled s ∧ (∀ n, s.auth.record ≠ .stabled n) ∧
      ((128 : Byte) ++ (0 : Byte)).getLsbD 15 = true) ∧
    (∃ s : State, Offered .vl ⟨0x2C, 5, [128, 0]⟩ s ∧ Settled s ∧ ((128 : Byte) ++ (0 : Byte)).getLsbD 15 = true ∧
      s.auth.record = .dark) ∧
    (∃ s : State, Offered .vl ⟨0x2C, 5, [0, 1]⟩ s ∧ Settled s ∧ (∀ n, s.auth.record ≠ .stabled n) ∧
      s.auth.record ≠ .dark) ∧
    (∃ s : State, Offered .vl ⟨0x2B, 5, [0, 1]⟩ s ∧ Settled s ∧ (∃ n, s.auth.record = .stabled n)) ∧
    (∃ s : State, Offered .vl ⟨0x2C, 5, [0, 1]⟩ s ∧ Settled s ∧ (∃ n, s.auth.record = .stabled n)) :=
  ⟨⟨settle (auth (.stabled 0) <| (asks .vl ⟨0x2A, 5, [127, 255]⟩ base)), offered_of (by decide +kernel),
  settled_of (by decide +kernel), by decide +kernel⟩,
   ⟨settle (asks .vl ⟨0x2B, 5, [127, 255]⟩ base), offered_of (by decide +kernel), settled_of (by decide +kernel),
     awake_of (by decide +kernel), by decide +kernel⟩,
   ⟨settle (asks .vl ⟨0x2C, 5, [0, 1]⟩ base), offered_of (by decide +kernel), settled_of (by decide +kernel),
     by decide +kernel⟩,
   ⟨settle (asks .vl ⟨0x2A, 5, [128, 0]⟩ base), offered_of (by decide +kernel), settled_of (by decide +kernel),
     by decide +kernel⟩,
   ⟨settle (asks .vl ⟨0x2B, 5, [128, 0]⟩ base), offered_of (by decide +kernel), settled_of (by decide +kernel),
     awake_of (by decide +kernel), by decide +kernel⟩,
   ⟨settle (asks .vl ⟨0x2C, 5, [128, 0]⟩ base), offered_of (by decide +kernel), settled_of (by decide +kernel),
     by decide +kernel⟩,
   ⟨settle (auth (.active .a) <| (asks .vl ⟨0x2C, 5, [0, 1]⟩ base)), offered_of (by decide +kernel),
     settled_of (by decide +kernel), awake_of (by decide +kernel), by decide +kernel⟩,
   ⟨settle (auth (.stabled 0) <| (asks .vl ⟨0x2B, 5, [0, 1]⟩ base)), offered_of (by decide +kernel),
     settled_of (by decide +kernel), stabled_of 0 (by decide +kernel)⟩,
   ⟨settle (auth (.stabled 0) <| (asks .vl ⟨0x2C, 5, [0, 1]⟩ base)), offered_of (by decide +kernel),
     settled_of (by decide +kernel), stabled_of 0 (by decide +kernel)⟩⟩

theorem witness_ConfigureItemsTake :
    (∃ s : State, Offered .vl ⟨0x26, 5, [1, 0, 1]⟩ s ∧ Settled s ∧ s.auth.record = .dark ∧ s.speed.standstill = true ∧
      1 ≤ ((0 : Byte) ++ (1 : Byte)).toNat) ∧
    (∃ s : State, Offered .vl ⟨0x26, 5, [1, 39, 15]⟩ s ∧ Settled s ∧ s.auth.record = .dark ∧
      s.speed.standstill = true ∧ ((39 : Byte) ++ (15 : Byte)).toNat ≤ 9999) ∧
    (∃ s : State, Offered .vl ⟨0x26, 5, [3, 0, 100]⟩ s ∧ Settled s ∧ s.auth.record = .dark ∧
      s.speed.standstill = true ∧ 100 ≤ ((0 : Byte) ++ (100 : Byte)).toNat) ∧
    (∃ s : State, Offered .vl ⟨0x26, 5, [3, 2, 88]⟩ s ∧ Settled s ∧ s.auth.record = .dark ∧
      s.speed.standstill = true ∧ ((2 : Byte) ++ (88 : Byte)).toNat ≤ 600) ∧
    (∃ s : State, Offered .vl ⟨0x26, 5, [4, 1, 244]⟩ s ∧ Settled s ∧ s.auth.record = .dark ∧
      s.speed.standstill = true ∧ 500 ≤ ((1 : Byte) ++ (244 : Byte)).toNat) ∧
    (∃ s : State, Offered .vl ⟨0x26, 5, [4, 19, 136]⟩ s ∧ Settled s ∧ s.auth.record = .dark ∧
      s.speed.standstill = true ∧ ((19 : Byte) ++ (136 : Byte)).toNat ≤ 5000) ∧
    (∃ s : State, Offered .vl ⟨0x26, 5, [2, 255]⟩ s ∧ Settled s ∧ s.auth.record = .dark ∧ s.speed.standstill = true) ∧
    (∃ s : State, Offered .vl ⟨0x26, 5, [5, 31, 2, 7]⟩ s ∧ Settled s ∧ s.auth.record = .dark ∧
      s.speed.standstill = true ∧ (31 : Byte).toNat = (31 : Fin 32).val ∧ (7 : Byte).toNat = (7 : Fin 8).val ∧
      (2 : Byte).toNat ≤ 2) ∧
    (∃ s : State, Offered .vl ⟨0x26, 5, [6, 15, 7, 15, 8]⟩ s ∧ Settled s ∧ s.auth.record = .dark ∧
      s.speed.standstill = true ∧ (15 : Byte).toNat = (15 : Fin 16).val ∧ (7 : Byte).toNat ≤ 7 ∧
      (15 : Byte).toNat ≤ 15 ∧ (8 : Byte).toNat ≤ 8) ∧
    (∃ s : State, Offered .vl ⟨0x26, 5, [6, 7, 7, 3, 1]⟩ s ∧ Settled s ∧ s.auth.record = .dark ∧
      s.speed.standstill = true ∧ (7 : Byte).toNat = (7 : Fin 16).val ∧ 1 ≤ (1 : Byte).toNat ∧ (7 : Byte) = 7 ∧
      (3 : Byte) = 3) ∧
    (∃ s : State, Offered .vl ⟨0x26, 5, [7, 15, 8, 8, 255]⟩ s ∧ Settled s ∧ (∀ x ∈ [((8 : Byte), (255 : Byte))],
      x.1.toNat ≤ 8 ∧ 1 ≤ x.2.toNat) ∧ s.auth.record = .dark ∧ s.speed.standstill = true ∧ 1 ≤ (8 : Byte).toNat ∧
      (8 : Byte).toNat + [((8 : Byte), (255 : Byte))].length ≤ 9) ∧
    (∃ s : State, Offered .vl ⟨0x26, 5, [7, 0, 5, 0, 1, 8, 1, 1, 1, 2, 1]⟩ s ∧ Settled s ∧ s.auth.record = .dark ∧
      s.speed.standstill = true ∧ (5 : Byte).toNat + [((0 : Byte), (1 : Byte)), (8, 1), (1, 1), (2, 1)].length ≤ 9 ∧
      [((0 : Byte), (1 : Byte)), (8, 1), (1, 1), (2, 1)].length ≤ 4) ∧
    (∃ s : State, Offered .vl ⟨0x26, 5, [8, 1]⟩ s ∧ Settled s ∧ s.auth.record = .dark ∧ s.speed.standstill = true) ∧
    (∃ s : State, Offered .vl ⟨0x26, 5, [8, 0]⟩ s ∧ Settled s ∧ s.auth.record = .dark ∧ s.speed.standstill = true ∧
      s.emerg.locked = false) ∧
    (∃ s : State, Offered .vl ⟨0x26, 5, [9, 0, 1]⟩ s ∧ Settled s ∧ s.auth.record = .dark ∧ s.speed.standstill = true ∧
      (1 : Byte).toNat ≤ 1) ∧
    (∃ s : State, Offered .vl ⟨0x26, 5, [9, 1, 1]⟩ s ∧ Settled s ∧ s.auth.record = .dark ∧ s.speed.standstill = true ∧
      (1 : Byte).toNat ≤ 1) ∧
    (∃ s : State, Offered .vl ⟨0x26, 5, [9, 2, 0]⟩ s ∧ Settled s ∧ s.auth.record = .dark ∧ s.speed.standstill = true ∧
      (0 : Byte).toNat ≤ 1) ∧
    (∃ s : State, Offered .vl ⟨0x26, 5, [10, 3, 3, 232, 3, 255]⟩ s ∧ Settled s ∧ s.auth.record = .dark ∧
      s.speed.standstill = true ∧ (3 : Byte).toNat = (3 : Fin 4).val ∧ ((3 : Byte) ++ (232 : Byte)).toNat ≤ 1000 ∧
      (3 : Byte).toNat ≤ 3 ∧ ((255 : Byte) = 0xFF ∨ (255 : Byte).toNat < 16)) ∧
    (∃ s : State, Offered .vl ⟨0x26, 5, [10, 0, 0, 0, 0, 15]⟩ s ∧ Settled s ∧ s.auth.record = .dark ∧
      s.speed.standstill = true ∧ (0 : Byte).toNat = (0 : Fin 4).val ∧ ((0 : Byte) ++ (0 : Byte)).toNat ≤ 1000 ∧
      ((15 : Byte) = 0xFF ∨ (15 : Byte).toNat < 16)) :=
  ⟨⟨settle (asks .vl ⟨0x26, 5, [1, 0, 1]⟩ base), offered_of (by decide +kernel), settled_of (by decide +kernel),
  by decide +kernel⟩,
   ⟨settle (asks .vl ⟨0x26, 5, [1, 39, 15]⟩ base), offered_of (by decide +kernel), settled_of (by decide +kernel),
     by decide +kernel⟩,
   ⟨settle (asks .vl ⟨0x26, 5, [3, 0, 100]⟩ base), offered_of (by decide +kernel), settled_of (by decide +kernel),
     by decide +kernel⟩,
   ⟨settle (asks .vl ⟨0x26, 5, [3, 2, 88]⟩ base), offered_of (by decide +kernel), settled_of (by decide +kernel),
     by decide +kernel⟩,
   ⟨settle (asks .vl ⟨0x26, 5, [4, 1, 244]⟩ base), offered_of (by decide +kernel), settled_of (by decide +kernel),
     by decide +kernel⟩,
   ⟨settle (asks .vl ⟨0x26, 5, [4, 19, 136]⟩ base), offered_of (by decide +kernel), settled_of (by decide +kernel),
     by decide +kernel⟩,
   ⟨settle (asks .vl ⟨0x26, 5, [2, 255]⟩ base), offered_of (by decide +kernel), settled_of (by decide +kernel),
     by decide +kernel⟩,
   ⟨settle (asks .vl ⟨0x26, 5, [5, 31, 2, 7]⟩ base), offered_of (by decide +kernel), settled_of (by decide +kernel),
     by decide +kernel⟩,
   ⟨settle (asks .vl ⟨0x26, 5, [6, 15, 7, 15, 8]⟩ base), offered_of (by decide +kernel),
     settled_of (by decide +kernel), by decide +kernel⟩,
   ⟨settle (asks .vl ⟨0x26, 5, [6, 7, 7, 3, 1]⟩ base), offered_of (by decide +kernel), settled_of (by decide +kernel),
     by decide +kernel⟩,
   ⟨settle (asks .vl ⟨0x26, 5, [7, 15, 8, 8, 255]⟩ base), offered_of (by decide +kernel),
     settled_of (by decide +kernel), by simp, by decide +kernel⟩,
   ⟨settle (asks .vl ⟨0x26, 5, [7, 0, 5, 0, 1, 8, 1, 1, 1, 2, 1]⟩ base), offered_of (by decide +kernel),
     settled_of (by decide +kernel), by decide +kernel⟩,
   ⟨settle (asks .vl ⟨0x26, 5, [8, 1]⟩ base), offered_of (by decide +kernel), settled_of (by decide +kernel),
     by decide +kernel⟩,
   ⟨settle (asks .vl ⟨0x26, 5, [8, 0]⟩ base), offered_of (by decide +kernel), settled_of (by decide +kernel),
     by decide +kernel⟩,
   ⟨settle (asks .vl ⟨0x26, 5, [9, 0, 1]⟩ base), offered_of (by decide +kernel), settled_of (by decide +kernel),
     by decide +kernel⟩,
   ⟨settle (asks .vl ⟨0x26, 5, [9, 1, 1]⟩ base), offered_of (by decide +kernel), settled_of (by decide +kernel),
     by decide +kernel⟩,
   ⟨settle (asks .vl ⟨0x26, 5, [9, 2, 0]⟩ base), offered_of (by decide +kernel), settled_of (by decide +kernel),
     by decide +kernel⟩,
   ⟨settle (asks .vl ⟨0x26, 5, [10, 3, 3, 232, 3, 255]⟩ base), offered_of (by decide +kernel),
     settled_of (by decide +kernel), by decide +kernel⟩,
   ⟨settle (asks .vl ⟨0x26, 5, [10, 0, 0, 0, 0, 15]⟩ base), offered_of (by decide +kernel),
     settled_of (by decide +kernel), by decide +kernel⟩⟩

theorem witness_PortAndConfigureRefusals :
    (∃ s : State, Offered .ca ⟨0x0F, 5, []⟩ s ∧ Settled s ∧ ¬ (0x10 ≤ (0x0F : Byte).toNat ∧
      (0x0F : Byte).toNat ≤ 0x19) ∧ ¬ (0x20 ≤ (0x0F : Byte).toNat ∧ (0x0F : Byte).toNat ≤ 0x2C)) ∧
    (∃ s : State, Offered .cb ⟨0x1A, 5, []⟩ s ∧ Settled s ∧ ¬ (0x10 ≤ (0x1A : Byte).toNat ∧
      (0x1A : Byte).toNat ≤ 0x19) ∧ ¬ (0x20 ≤ (0x1A : Byte).toNat ∧ (0x1A : Byte).toNat ≤ 0x2C)) ∧
    (∃ s : State, Offered .vl ⟨0x1F, 5, []⟩ s ∧ Settled s ∧ ¬ (0x10 ≤ (0x1F : Byte).toNat ∧
      (0x1F : Byte).toNat ≤ 0x19) ∧ ¬ (0x20 ≤ (0x1F : Byte).toNat ∧ (0x1F : Byte).toNat ≤ 0x2C)) ∧
    (∃ s : State, Offered .vl ⟨0x2D, 5, []⟩ s ∧ Settled s ∧ ¬ (0x10 ≤ (0x2D : Byte).toNat ∧
      (0x2D : Byte).toNat ≤ 0x19) ∧ ¬ (0x20 ≤ (0x2D : Byte).toNat ∧ (0x2D : Byte).toNat ≤ 0x2C)) ∧
    (∃ s : State, Offered .ca ⟨0x20, 5, []⟩ s ∧ Settled s ∧ (0x20 ≤ (0x20 : Byte).toNat ∧ (0x20 : Byte).toNat ≤ 0x2C)) ∧
    (∃ s : State, Offered .vl ⟨0x19, 5, []⟩ s ∧ Settled s ∧ (0x10 ≤ (0x19 : Byte).toNat ∧ (0x19 : Byte).toNat ≤ 0x19)) ∧
    (∃ s : State, Offered .kl ⟨0x10, 5, []⟩ s ∧ Settled s ∧ (0x10 ≤ (0x10 : Byte).toNat ∧ (0x10 : Byte).toNat ≤ 0x19)) ∧
    (∃ s : State, Offered .ca ⟨0x13, 5, []⟩ s ∧ Settled s ∧ (0x10 ≤ (0x13 : Byte).toNat ∧
      (0x13 : Byte).toNat ≤ 0x19) ∧ ([] : List Byte).length ≠ 1) ∧
    (∃ s : State, Offered .vl ⟨0x20, 5, [1, 2, 3, 4, 5, 6]⟩ s ∧ Settled s ∧ (0x20 ≤ (0x20 : Byte).toNat ∧
      (0x20 : Byte).toNat ≤ 0x2C) ∧ [(1 : Byte), 2, 3, 4, 5, 6].length ≠ 7) ∧
    (∃ s : State, Offered .vl ⟨0x26, 5, [1]⟩ s ∧ Settled s ∧ (0x20 ≤ (0x26 : Byte).toNat ∧
      (0x26 : Byte).toNat ≤ 0x2C) ∧ [(1 : Byte)].length < 2) ∧
    (∃ s : State, Offered .vl ⟨0x26, 5, [1, 2, 3, 4, 5, 6, 7, 8, 9, 10, 11, 12]⟩ s ∧ Settled s ∧
      (0x20 ≤ (0x26 : Byte).toNat ∧ (0x26 : Byte).toNat ≤ 0x2C) ∧ 11 < [(1 : Byte), 2, 3, 4, 5, 6, 7, 8, 9, 10, 11,
      12].length) ∧
    (∃ s : State, Offered .cb ⟨0x19, 5, [0, 1]⟩ s ∧ Settled s ∧ (∃ n, s.auth.record = .stabled n) ∧
      (0x10 ≤ (0x19 : Byte).toNat ∧ (0x19 : Byte).toNat ≤ 0x19)) ∧
    (∃ s : State, Offered .vl ⟨0x2C, 5, [0, 1]⟩ s ∧ Settled s ∧ (∃ n, s.auth.record = .stabled n) ∧
      (0x20 ≤ (0x2C : Byte).toNat ∧ (0x2C : Byte).toNat ≤ 0x2C)) ∧
    (∃ s : State, Offered .vl ⟨0x26, 5, [11, 0]⟩ s ∧ Settled s ∧ (∀ n, s.auth.record ≠ .stabled n) ∧
      itemOf [(11 : Byte), 0] = none) ∧
    (∃ s : State, Offered .vl ⟨0x26, 5, [1, 0]⟩ s ∧ Settled s ∧ (∀ n, s.auth.record ≠ .stabled n) ∧
      itemOf [(1 : Byte), 0] = none) ∧
    (∃ s : State, Offered .vl ⟨0x26, 5, [2, 0]⟩ s ∧ Settled s ∧ (∀ n, s.auth.record ≠ .stabled n) ∧
      itemOf [(2 : Byte), 0] ≠ none ∧ s.auth.record ≠ .dark) ∧
    (∃ s : State, Offered .vl ⟨0x26, 5, [2, 0]⟩ s ∧ Settled s ∧ (∀ n, s.auth.record ≠ .stabled n) ∧
      itemOf [(2 : Byte), 0] ≠ none ∧ s.auth.record = .dark ∧ s.speed.standstill = false) ∧
    (∃ s : State, Offered .vl ⟨0x26, 5, [1, 0, 0]⟩ s ∧ Settled s ∧ (∀ n, s.auth.record ≠ .stabled n) ∧
      s.auth.record = .dark ∧ s.speed.standstill = true ∧ ((0 : Byte) ++ (0 : Byte)).toNat = 0) ∧
    (∃ s : State, Offered .vl ⟨0x26, 5, [1, 39, 16]⟩ s ∧ Settled s ∧ (∀ n, s.auth.record ≠ .stabled n) ∧
      s.auth.record = .dark ∧ s.speed.standstill = true ∧ 9999 < ((39 : Byte) ++ (16 : Byte)).toNat) ∧
    (∃ s : State, Offered .vl ⟨0x26, 5, [3, 0, 99]⟩ s ∧ Settled s ∧ (∀ n, s.auth.record ≠ .stabled n) ∧
      s.auth.record = .dark ∧ s.speed.standstill = true ∧ ((0 : Byte) ++ (99 : Byte)).toNat < 100) ∧
    (∃ s : State, Offered .vl ⟨0x26, 5, [3, 2, 89]⟩ s ∧ Settled s ∧ (∀ n, s.auth.record ≠ .stabled n) ∧
      s.auth.record = .dark ∧ s.speed.standstill = true ∧ 600 < ((2 : Byte) ++ (89 : Byte)).toNat) ∧
    (∃ s : State, Offered .vl ⟨0x26, 5, [4, 1, 243]⟩ s ∧ Settled s ∧ (∀ n, s.auth.record ≠ .stabled n) ∧
      s.auth.record = .dark ∧ s.speed.standstill = true ∧ ((1 : Byte) ++ (243 : Byte)).toNat < 500) ∧
    (∃ s : State, Offered .vl ⟨0x26, 5, [4, 19, 137]⟩ s ∧ Settled s ∧ (∀ n, s.auth.record ≠ .stabled n) ∧
      s.auth.record = .dark ∧ s.speed.standstill = true ∧ 5000 < ((19 : Byte) ++ (137 : Byte)).toNat) ∧
    (∃ s : State, Offered .vl ⟨0x26, 5, [9, 3, 0]⟩ s ∧ Settled s ∧ (∀ n, s.auth.record ≠ .stabled n) ∧
      s.auth.record = .dark ∧ s.speed.standstill = true ∧ 2 < (3 : Byte).toNat) ∧
    (∃ s : State, Offered .vl ⟨0x26, 5, [9, 0, 2]⟩ s ∧ Settled s ∧ (∀ n, s.auth.record ≠ .stabled n) ∧
      s.auth.record = .dark ∧ s.speed.standstill = true ∧ 1 < (2 : Byte).toNat) ∧
    (∃ s : State, Offered .vl ⟨0x26, 5, [5, 32, 0, 0]⟩ s ∧ Settled s ∧ (∀ n, s.auth.record ≠ .stabled n) ∧
      s.auth.record = .dark ∧ s.speed.standstill = true ∧ 32 ≤ (32 : Byte).toNat) ∧
    (∃ s : State, Offered .vl ⟨0x26, 5, [5, 0, 3, 0]⟩ s ∧ Settled s ∧ (∀ n, s.auth.record ≠ .stabled n) ∧
      s.auth.record = .dark ∧ s.speed.standstill = true ∧ 2 < (3 : Byte).toNat) ∧
    (∃ s : State, Offered .vl ⟨0x26, 5, [5, 0, 0, 8]⟩ s ∧ Settled s ∧ (∀ n, s.auth.record ≠ .stabled n) ∧
      s.auth.record = .dark ∧ s.speed.standstill = true ∧ 8 ≤ (8 : Byte).toNat) ∧
    (∃ s : State, Offered .vl ⟨0x26, 5, [6, 16, 0, 0, 1]⟩ s ∧ Settled s ∧ (∀ n, s.auth.record ≠ .stabled n) ∧
      s.auth.record = .dark ∧ s.speed.standstill = true ∧ 16 ≤ (16 : Byte).toNat) ∧
    (∃ s : State, Offered .vl ⟨0x26, 5, [6, 0, 8, 0, 1]⟩ s ∧ Settled s ∧ (∀ n, s.auth.record ≠ .stabled n) ∧
      s.auth.record = .dark ∧ s.speed.standstill = true ∧ 7 < (8 : Byte).toNat) ∧
    (∃ s : State, Offered .vl ⟨0x26, 5, [6, 0, 0, 16, 1]⟩ s ∧ Settled s ∧ (∀ n, s.auth.record ≠ .stabled n) ∧
      s.auth.record = .dark ∧ s.speed.standstill = true ∧ 15 < (16 : Byte).toNat) ∧
    (∃ s : State, Offered .vl ⟨0x26, 5, [6, 0, 0, 0, 0]⟩ s ∧ Settled s ∧ (∀ n, s.auth.record ≠ .stabled n) ∧
      s.auth.record = .dark ∧ s.speed.standstill = true ∧ (0 : Byte) = 0) ∧
    (∃ s : State, Offered .vl ⟨0x26, 5, [6, 0, 0, 0, 9]⟩ s ∧ Settled s ∧ (∀ n, s.auth.record ≠ .stabled n) ∧
      s.auth.record = .dark ∧ s.speed.standstill = true ∧ 8 < (9 : Byte).toNat) ∧
    (∃ s : State, Offered .vl ⟨0x26, 5, [6, 7, 6, 3, 1]⟩ s ∧ Settled s ∧ (∀ n, s.auth.record ≠ .stabled n) ∧
      s.auth.record = .dark ∧ s.speed.standstill = true ∧ (6 : Byte) ≠ 7) ∧
    (∃ s : State, Offered .vl ⟨0x26, 5, [6, 7, 7, 2, 1]⟩ s ∧ Settled s ∧ (∀ n, s.auth.record ≠ .stabled n) ∧
      s.auth.record = .dark ∧ s.speed.standstill = true ∧ (2 : Byte) ≠ 3) ∧
    (∃ s : State, Offered .vl ⟨0x26, 5, [7, 16, 1, 0, 1]⟩ s ∧ Settled s ∧ (∀ n, s.auth.record ≠ .stabled n) ∧
      s.auth.record = .dark ∧ s.speed.standstill = true ∧ 16 ≤ (16 : Byte).toNat) ∧
    (∃ s : State, Offered .vl ⟨0x26, 5, [7, 0, 0, 0, 1]⟩ s ∧ Settled s ∧ (∀ n, s.auth.record ≠ .stabled n) ∧
      s.auth.record = .dark ∧ s.speed.standstill = true ∧ (0 : Byte) = 0) ∧
    (∃ s : State, Offered .vl ⟨0x26, 5, [7, 0, 8, 0, 1, 0, 1]⟩ s ∧ Settled s ∧ (∀ n, s.auth.record ≠ .stabled n) ∧
      s.auth.record = .dark ∧ s.speed.standstill = true ∧ 9 < (8 : Byte).toNat + 1 + [(0 : Byte), 1].length / 2) ∧
    (∃ s : State, Offered .vl ⟨0x26, 5, [7, 0, 1, 9, 1]⟩ s ∧ Settled s ∧ (∀ n, s.auth.record ≠ .stabled n) ∧
      s.auth.record = .dark ∧ s.speed.standstill = true ∧ 8 < (9 : Byte).toNat) ∧
    (∃ s : State, Offered .vl ⟨0x26, 5, [7, 0, 1, 8, 0]⟩ s ∧ Settled s ∧ (∀ n, s.auth.record ≠ .stabled n) ∧
      s.auth.record = .dark ∧ s.speed.standstill = true ∧ (0 : Byte) = 0) ∧
    (∃ s : State, Offered .vl ⟨0x26, 5, [8, 2]⟩ s ∧ Settled s ∧ (∀ n, s.auth.record ≠ .stabled n) ∧
      s.auth.record = .dark ∧ s.speed.standstill = true ∧ 1 < (2 : Byte).toNat) ∧
    (∃ s : State, Offered .vl ⟨0x26, 5, [8, 0]⟩ s ∧ Settled s ∧ (∀ n, s.auth.record ≠ .stabled n) ∧
      s.auth.record = .dark ∧ s.speed.standstill = true ∧ s.emerg.locked = true) ∧
    (∃ s : State, Offered .vl ⟨0x26, 5, [10, 4, 0, 0, 0, 255]⟩ s ∧ Settled s ∧ (∀ n, s.auth.record ≠ .stabled n) ∧
      s.auth.record = .dark ∧ s.speed.standstill = true ∧ 4 ≤ (4 : Byte).toNat) ∧
    (∃ s : State, Offered .vl ⟨0x26, 5, [10, 0, 3, 233, 0, 255]⟩ s ∧ Settled s ∧ (∀ n, s.auth.record ≠ .stabled n) ∧
      s.auth.record = .dark ∧ s.speed.standstill = true ∧ 1000 < ((3 : Byte) ++ (233 : Byte)).toNat) ∧
    (∃ s : State, Offered .vl ⟨0x26, 5, [10, 0, 0, 0, 4, 255]⟩ s ∧ Settled s ∧ (∀ n, s.auth.record ≠ .stabled n) ∧
      s.auth.record = .dark ∧ s.speed.standstill = true ∧ 3 < (4 : Byte).toNat) ∧
    (∃ s : State, Offered .vl ⟨0x26, 5, [10, 0, 0, 0, 0, 16]⟩ s ∧ Settled s ∧ (∀ n, s.auth.record ≠ .stabled n) ∧
      s.auth.record = .dark ∧ s.speed.standstill = true ∧ 16 ≤ (16 : Byte).toNat ∧ (16 : Byte) ≠ 0xFF) :=
  ⟨⟨settle (asks .ca ⟨0x0F, 5, []⟩ base), offered_of (by decide +kernel), settled_of (by decide +kernel),
  by decide +kernel⟩,
   ⟨settle (asks .cb ⟨0x1A, 5, []⟩ base), offered_of (by decide +kernel), settled_of (by decide +kernel),
     by decide +kernel⟩,
   ⟨settle (asks .vl ⟨0x1F, 5, []⟩ base), offered_of (by decide +kernel), settled_of (by decide +kernel),
     by decide +kernel⟩,
   ⟨settle (asks .vl ⟨0x2D, 5, []⟩ base), offered_of (by decide +kernel), settled_of (by decide +kernel),
     by decide +kernel⟩,
   ⟨settle (asks .ca ⟨0x20, 5, []⟩ base), offered_of (by decide +kernel), settled_of (by decide +kernel),
     by decide +kernel⟩,
   ⟨settle (asks .vl ⟨0x19, 5, []⟩ base), offered_of (by decide +kernel), settled_of (by decide +kernel),
     by decide +kernel⟩,
   ⟨settle (asks .kl ⟨0x10, 5, []⟩ base), offered_of (by decide +kernel), settled_of (by decide +kernel),
     by decide +kernel⟩,
   ⟨settle (asks .ca ⟨0x13, 5, []⟩ base), offered_of (by decide +kernel), settled_of (by decide +kernel),
     by decide +kernel⟩,
   ⟨settle (asks .vl ⟨0x20, 5, [1, 2, 3, 4, 5, 6]⟩ base), offered_of (by decide +kernel),
     settled_of (by decide +kernel), by decide +kernel⟩,
   ⟨settle (asks .vl ⟨0x26, 5, [1]⟩ base), offered_of (by decide +kernel), settled_of (by decide +kernel),
     by decide +kernel⟩,
   ⟨settle (asks .vl ⟨0x26, 5, [1, 2, 3, 4, 5, 6, 7, 8, 9, 10, 11, 12]⟩ base), offered_of (by decide +kernel),
     settled_of (by decide +kernel), by decide +kernel⟩,
   ⟨settle (auth (.stabled 0) <| (asks .cb ⟨0x19, 5, [0, 1]⟩ base)), offered_of (by decide +kernel),
     settled_of (by decide +kernel), stabled_of 0 (by decide +kernel), by decide +kernel⟩,
   ⟨settle (auth (.stabled 7) <| (asks .vl ⟨0x2C, 5, [0, 1]⟩ base)), offered_of (by decide +kernel),
     settled_of (by decide +kernel), stabled_of 7 (by decide +kernel), by decide +kernel⟩,
   ⟨settle (asks .vl ⟨0x26, 5, [11, 0]⟩ base), offered_of (by decide +kernel), settled_of (by decide +kernel),
     awake_of (by decide +kernel), by decide +kernel⟩,
   ⟨settle (asks .vl ⟨0x26, 5, [1, 0]⟩ base), offered_of (by decide +kernel), settled_of (by decide +kernel),
     awake_of (by decide +kernel), by decide +kernel⟩,
   ⟨settle (auth (.parked .a 1) <| (asks .vl ⟨0x26, 5, [2, 0]⟩ base)), offered_of (by decide +kernel),
     settled_of (by decide +kernel), awake_of (by decide +kernel), by decide +kernel⟩,
   ⟨settle (fast 5 <| (asks .vl ⟨0x26, 5, [2, 0]⟩ base)), offered_of (by decide +kernel),
     settled_of (by decide +kernel), awake_of (by decide +kernel), by decide +kernel⟩,
   ⟨settle (asks .vl ⟨0x26, 5, [1, 0, 0]⟩ base), offered_of (by decide +kernel), settled_of (by decide +kernel),
     awake_of (by decide +kernel), by decide +kernel⟩,
   ⟨settle (asks .vl ⟨0x26, 5, [1, 39, 16]⟩ base), offered_of (by decide +kernel), settled_of (by decide +kernel),
     awake_of (by decide +kernel), by decide +kernel⟩,
   ⟨settle (asks .vl ⟨0x26, 5, [3, 0, 99]⟩ base), offered_of (by decide +kernel), settled_of (by decide +kernel),
     awake_of (by decide +kernel), by decide +kernel⟩,
   ⟨settle (asks .vl ⟨0x26, 5, [3, 2, 89]⟩ base), offered_of (by decide +kernel), settled_of (by decide +kernel),
     awake_of (by decide +kernel), by decide +kernel⟩,
   ⟨settle (asks .vl ⟨0x26, 5, [4, 1, 243]⟩ base), offered_of (by decide +kernel), settled_of (by decide +kernel),
     awake_of (by decide +kernel), by decide +kernel⟩,
   ⟨settle (asks .vl ⟨0x26, 5, [4, 19, 137]⟩ base), offered_of (by decide +kernel), settled_of (by decide +kernel),
     awake_of (by decide +kernel), by decide +kernel⟩,
   ⟨settle (asks .vl ⟨0x26, 5, [9, 3, 0]⟩ base), offered_of (by decide +kernel), settled_of (by decide +kernel),
     awake_of (by decide +kernel), by decide +kernel⟩,
   ⟨settle (asks .vl ⟨0x26, 5, [9, 0, 2]⟩ base), offered_of (by decide +kernel), settled_of (by decide +kernel),
     awake_of (by decide +kernel), by decide +kernel⟩,
   ⟨settle (asks .vl ⟨0x26, 5, [5, 32, 0, 0]⟩ base), offered_of (by decide +kernel), settled_of (by decide +kernel),
     awake_of (by decide +kernel), by decide +kernel⟩,
   ⟨settle (asks .vl ⟨0x26, 5, [5, 0, 3, 0]⟩ base), offered_of (by decide +kernel), settled_of (by decide +kernel),
     awake_of (by decide +kernel), by decide +kernel⟩,
   ⟨settle (asks .vl ⟨0x26, 5, [5, 0, 0, 8]⟩ base), offered_of (by decide +kernel), settled_of (by decide +kernel),
     awake_of (by decide +kernel), by decide +kernel⟩,
   ⟨settle (asks .vl ⟨0x26, 5, [6, 16, 0, 0, 1]⟩ base), offered_of (by decide +kernel),
     settled_of (by decide +kernel), awake_of (by decide +kernel), by decide +kernel⟩,
   ⟨settle (asks .vl ⟨0x26, 5, [6, 0, 8, 0, 1]⟩ base), offered_of (by decide +kernel), settled_of (by decide +kernel),
     awake_of (by decide +kernel), by decide +kernel⟩,
   ⟨settle (asks .vl ⟨0x26, 5, [6, 0, 0, 16, 1]⟩ base), offered_of (by decide +kernel),
     settled_of (by decide +kernel), awake_of (by decide +kernel), by decide +kernel⟩,
   ⟨settle (asks .vl ⟨0x26, 5, [6, 0, 0, 0, 0]⟩ base), offered_of (by decide +kernel), settled_of (by decide +kernel),
     awake_of (by decide +kernel), by decide +kernel⟩,
   ⟨settle (asks .vl ⟨0x26, 5, [6, 0, 0, 0, 9]⟩ base), offered_of (by decide +kernel), settled_of (by decide +kernel),
     awake_of (by decide +kernel), by decide +kernel⟩,
   ⟨settle (asks .vl ⟨0x26, 5, [6, 7, 6, 3, 1]⟩ base), offered_of (by decide +kernel), settled_of (by decide +kernel),
     awake_of (by decide +kernel), by decide +kernel⟩,
   ⟨settle (asks .vl ⟨0x26, 5, [6, 7, 7, 2, 1]⟩ base), offered_of (by decide +kernel), settled_of (by decide +kernel),
     awake_of (by decide +kernel), by decide +kernel⟩,
   ⟨settle (asks .vl ⟨0x26, 5, [7, 16, 1, 0, 1]⟩ base), offered_of (by decide +kernel),
     settled_of (by decide +kernel), awake_of (by decide +kernel), by decide +kernel⟩,
   ⟨settle (asks .vl ⟨0x26, 5, [7, 0, 0, 0, 1]⟩ base), offered_of (by decide +kernel), settled_of (by decide +kernel),
     awake_of (by decide +kernel), by decide +kernel⟩,
   ⟨settle (asks .vl ⟨0x26, 5, [7, 0, 8, 0, 1, 0, 1]⟩ base), offered_of (by decide +kernel),
     settled_of (by decide +kernel), awake_of (by decide +kernel), by decide +kernel⟩,
   ⟨settle (asks .vl ⟨0x26, 5, [7, 0, 1, 9, 1]⟩ base), offered_of (by decide +kernel), settled_of (by decide +kernel),
     awake_of (by decide +kernel), by decide +kernel⟩,
   ⟨settle (asks .vl ⟨0x26, 5, [7, 0, 1, 8, 0]⟩ base), offered_of (by decide +kernel), settled_of (by decide +kernel),
     awake_of (by decide +kernel), by decide +kernel⟩,
   ⟨settle (asks .vl ⟨0x26, 5, [8, 2]⟩ base), offered_of (by decide +kernel), settled_of (by decide +kernel),
     awake_of (by decide +kernel), by decide +kernel⟩,
   ⟨settle (emerg (fun x => { x with locked := true }) <| (asks .vl ⟨0x26, 5, [8, 0]⟩ base)),
     offered_of (by decide +kernel), settled_of (by decide +kernel), awake_of (by decide +kernel), by decide +kernel⟩,
   ⟨settle (asks .vl ⟨0x26, 5, [10, 4, 0, 0, 0, 255]⟩ base), offered_of (by decide +kernel),
     settled_of (by decide +kernel), awake_of (by decide +kernel), by decide +kernel⟩,
   ⟨settle (asks .vl ⟨0x26, 5, [10, 0, 3, 233, 0, 255]⟩ base), offered_of (by decide +kernel),
     settled_of (by decide +kernel), awake_of (by decide +kernel), by decide +kernel⟩,
   ⟨settle (asks .vl ⟨0x26, 5, [10, 0, 0, 0, 4, 255]⟩ base), offered_of (by decide +kernel),
     settled_of (by decide +kernel), awake_of (by decide +kernel), by decide +kernel⟩,
   ⟨settle (asks .vl ⟨0x26, 5, [10, 0, 0, 0, 0, 16]⟩ base), offered_of (by decide +kernel),
     settled_of (by decide +kernel), awake_of (by decide +kernel), by decide +kernel⟩⟩

theorem witness_CommandArrivalQueuesOrAnswers :
    (∃ s : State, Settled s ∧ (0x10 : Byte) ∉ ([0x01, 0x02, 0x03, 0x40, 0x41, 0x42, 0x50, 0x51, 0x60] : List Byte) ∧
      (s.port .ca).link = true ∧ (s.port .ca).commands.length < 8) ∧
    (∃ s : State, Settled s ∧ (0x10 : Byte) ∉ ([0x01, 0x02, 0x03, 0x40, 0x41, 0x42, 0x50, 0x51, 0x60] : List Byte) ∧
      (s.port .ca).link = true ∧ 8 ≤ (s.port .ca).commands.length ∧ (s.port .ca).transmit.length < 8) ∧
    (∃ s : State, Settled s ∧ (0x10 : Byte) ∉ ([0x01, 0x02, 0x03, 0x40, 0x41, 0x42, 0x50, 0x51, 0x60] : List Byte) ∧
      (s.port .ca).link = true ∧ 8 ≤ (s.port .ca).commands.length ∧ 8 ≤ (s.port .ca).transmit.length) ∧
    (∃ s : State, Settled s ∧ (0x10 : Byte) ∉ ([0x01, 0x02, 0x03, 0x40, 0x41, 0x42, 0x50, 0x51, 0x60] : List Byte) ∧
      (s.port .kl).link = false ∧ (s.port .kl).commands.length < 8) ∧
    (∃ s : State, Settled s ∧ (0x10 : Byte) ∉ ([0x01, 0x02, 0x03, 0x40, 0x41, 0x42, 0x50, 0x51, 0x60] : List Byte) ∧
      (s.port .ca).unanswered ≠ none) ∧
    (∃ s : State, Settled s ∧ (0x10 : Byte) ∉ ([0x01, 0x02, 0x03, 0x40, 0x41, 0x42, 0x50, 0x51, 0x60] : List Byte) ∧
      (s.port .ca).heldAnswer ≠ none) ∧
    (∃ s : State, Settled s ∧ Offered .ca ⟨0x11, 5, []⟩ (s.setPort .ca { s.port .ca with transmit := [] }) ∧
      Settled (s.setPort .ca { s.port .ca with transmit := [] }) ∧ (0x11 : Byte) ∉ ([0x01, 0x02, 0x03, 0x40, 0x41,
      0x42, 0x50, 0x51, 0x60] : List Byte) ∧ 8 ≤ (s.port .ca).transmit.length ∧ s.vl.owed = false) ∧
    (∃ s : State, Settled s ∧ Offered .vl ⟨0x23, 5, []⟩ (s.setPort .vl { s.port .vl with transmit := [] }) ∧
      Settled (s.setPort .vl { s.port .vl with transmit := [] }) ∧ (0x23 : Byte) ∉ ([0x01, 0x02, 0x03, 0x40, 0x41,
      0x42, 0x50, 0x51, 0x60] : List Byte) ∧ 8 ≤ (s.port .vl).transmit.length ∧ s.vl.owed = false) ∧
    (∃ s : State, Settled s ∧ Offered .ca ⟨0x10, 5, []⟩ (s.setPort .ca { s.port .ca with transmit := [] }) ∧
      Settled (s.setPort .ca { s.port .ca with transmit := [] }) ∧ (0x10 : Byte) ∉ ([0x01, 0x02, 0x03, 0x40, 0x41,
      0x42, 0x50, 0x51, 0x60] : List Byte) ∧ 8 ≤ (s.port .ca).transmit.length ∧ s.vl.owed = false) :=
  ⟨⟨settle (port .ca (fun x => { x with commands := List.replicate 7 ⟨0x10, 5, []⟩ }) <| base),
  settled_of (by decide +kernel), by decide +kernel⟩,
   ⟨settle (port .ca (fun x => { x with commands := List.replicate 8 ⟨0x10, 5, []⟩, transmit := List.replicate 7 (.notice 0) }) <| base),
     settled_of (by decide +kernel), by decide +kernel⟩,
   ⟨settle (port .ca (fun x => { x with commands := List.replicate 8 ⟨0x10, 5, []⟩, transmit := List.replicate 8 (.notice 0) }) <| base),
     settled_of (by decide +kernel), by decide +kernel⟩,
   ⟨settle (port .kl (fun x => { x with link := false, silence := none }) <| base), settled_of (by decide +kernel),
     by decide +kernel⟩,
   ⟨settle (port .ca (fun x => { x with unanswered := some ⟨0x10, 5, []⟩, commands := [⟨0x11, 6, []⟩] }) <| base),
     settled_of (by decide +kernel), by decide +kernel⟩,
   ⟨settle (port .ca (fun x => { x with heldAnswer := some (.accepted 0x28 5 []), commands := [⟨0x11, 6, []⟩] }) <| base),
     settled_of (by decide +kernel), by decide +kernel⟩,
   ⟨settle (auth (.active .a) <| port .ca (fun x => { x with transmit := List.replicate 8 (.notice 0), wire := 99 }) (asks .ca ⟨0x11,
     5, []⟩ base)), settled_of (by decide +kernel), offered_of (by decide +kernel), settled_of (by decide +kernel),
     by decide +kernel⟩,
   ⟨settle ( port .vl (fun x => { x with transmit := List.replicate 8 (.notice 0), wire := 99 }) (asks .vl ⟨0x23, 5,
     []⟩ base)), settled_of (by decide +kernel), offered_of (by decide +kernel), settled_of (by decide +kernel),
     by decide +kernel⟩,
   ⟨settle (coupled .neutral <| port .ca (fun x => { x with transmit := List.replicate 8 (.notice 0), wire := 99 }) (asks .ca ⟨0x10,
     5, []⟩ base)), settled_of (by decide +kernel), offered_of (by decide +kernel), settled_of (by decide +kernel),
     by decide +kernel⟩⟩

theorem witness_CabStateReachesItsSlot :
    (∃ s : State, Settled s ∧ (∃ n, s.auth.record = .stabled n) ∧ (s.port .ca).link = true) ∧
    (∃ s : State, Settled s ∧ (∀ n, s.auth.record ≠ .stabled n) ∧ (s.port .ca).link = true ∧
      s.auth.record ≠ .active .a) ∧
    (∃ s : State, Settled s ∧ SoundsSound s ∧ (s.port .ca).link = true ∧ s.auth.record = .active .a ∧
      (s.slot .a).bell = true ∧ (s.slot .a).horn = true ∧ (0x80 : Byte) = 0x80) ∧
    (∃ s : State, Settled s ∧ (s.port .ca).link = true ∧ s.auth.record = .active .a ∧ (0x81 : Byte) ≠ 0x80 ∧
      (s.slot .a).bell = false ∧ s.sound.channels.bell.playing = none) :=
  ⟨⟨settle (auth (.stabled 0) <| base), settled_of (by decide +kernel), stabled_of 0 (by decide +kernel),
  by decide +kernel⟩,
   ⟨settle (auth (.active .b) <| base), settled_of (by decide +kernel), awake_of (by decide +kernel),
     by decide +kernel⟩,
   ⟨settle (auth (.active .a) <| cab .a ⟨.number 0, true, false, true, true, true⟩ <| base),
     settled_of (by decide +kernel), sounds_of (by decide +kernel), by decide +kernel⟩,
   ⟨settle (auth (.active .a) <| base), settled_of (by decide +kernel), by decide +kernel⟩⟩

theorem witness_VehicleStateReplacesHeldValues :
    (∃ s : State, Settled s ∧ LadderSound s ∧ (s.port .vl).link = true ∧
      s.emerg.divisor < ({ s.emerg.demands with vehicle := some 8 } : Demands).target) ∧
    (∃ s : State, Settled s ∧ LadderSound s ∧ (s.port .vl).link = true ∧
      ({ s.emerg.demands with vehicle := none } : Demands).target < s.emerg.divisor ∧ s.emerg.settle = none ∧
      ({ s.emerg.demands with vehicle := none } : Demands) ≠ s.emerg.demands) ∧
    (∃ s : State, Settled s ∧ LadderSound s ∧ (s.port .vl).link = true ∧ s.emerg.settle = some 9 ∧
      ({ s.emerg.demands with vehicle := some 6 } : Demands) ≠ s.emerg.demands ∧
      ({ s.emerg.demands with vehicle := some 6 } : Demands).target = s.emerg.divisor ∧
      ({ s.emerg.demands with vehicle := some 4 } : Demands).target < s.emerg.divisor ∧
      s.emerg.demands.target < ({ s.emerg.demands with vehicle := some 4 } : Demands).target ∧
      ({ s.emerg.demands with vehicle := none } : Demands).target ≤ s.emerg.demands.target) :=
  ⟨⟨settle (emerg (fun x => { x with divisor := 1, settle := none }) <| base), settled_of (by decide +kernel),
  ladder_of (by decide +kernel), by decide +kernel⟩,
   ⟨settle (emerg (fun x => { x with demands := { x.demands with vehicle := some 8 }, settle := none }) <| base),
     settled_of (by decide +kernel), ladder_of (by decide +kernel), by decide +kernel⟩,
   ⟨settle (emerg (fun x => { x with divisor := 6, settle := some 9, demands := { x.demands with vehicle := some 2 } }) <| base),
     settled_of (by decide +kernel), ladder_of (by decide +kernel), by decide +kernel⟩⟩

theorem witness_ConsistPagesJoinTwoParts :
    (∃ s : State, Settled s ∧ (s.port .kl).link = true ∧ (consistPage0 frame).head? = some 0x02 ∧
      consistOf (consistPage0 frame) [0x12, 0, 0, 0, 0, 0, 0, 0, 0, 0, 0] ≠ none) ∧
    (∃ s : State, Settled s ∧ (s.port .kl).link = true ∧ (0x03 : Byte).extractLsb' 0 4 ≠ 2#4) ∧
    (∃ s : State, Settled s ∧ (s.port .kl).link = true ∧ (consistPage1 frame).head? = some 0x12 ∧ consistOf [2, 0, 0,
      0, 0, 0, 0, 0, 0, 0, 0, 0] (consistPage1 frame) ≠ none ∧ s.assembly = some (4, consistPage0 frame) ∧
      (4 : Byte) ≠ 5) ∧
    (∃ s : State, Settled s ∧ (∀ n, s.auth.record ≠ .stabled n) ∧ ConsistSound s ∧ (s.port .kl).link = true ∧
      s.assembly = some (5, consistPage0 frame) ∧ consistOf (consistPage0 frame) (consistPage1 frame) = some frame ∧
      1 ≤ frame.vehicle ∧ frame.vehicle ≤ 9999 ∧ 100 ≤ frame.length ∧ frame.length ≤ 600 ∧ s.consist.state = .single) ∧
    (∃ s : State, Settled s ∧ (∀ n, s.auth.record ≠ .stabled n) ∧ ConsistSound s ∧ (s.port .kl).link = true ∧
      s.assembly = some (5, consistPage0 frame) ∧ consistOf (consistPage0 frame) (consistPage1 frame) = some frame ∧
      1 ≤ frame.vehicle ∧ frame.vehicle ≤ 9999 ∧ 100 ≤ frame.length ∧ frame.length ≤ 600 ∧
      s.consist.state = .joining ∧ s.consist.identity = some (frame.vehicle, frame.rank) ∧ s.consist.count = 2 ∧
      frame.vehicle ≠ s.vl.vehicleNumber ∧ frame.rank ≠ s.vl.rank ∧ s.auth.record = .dark ∧
      frame.authority.state ≠ .active ∧ frame.ownSources = 0 ∧ frame.intent = none ∧ frame.answer = none) ∧
    (∃ s : State, Settled s ∧
      Brings 5 (consistPage1 ({ frame with authority := ⟨.active, some .a, none⟩ })) ({ frame with authority := ⟨.active, some .a, none⟩ }) s ∧
      StaysCoupled ({ frame with authority := ⟨.active, some .a, none⟩ }) s ∧ (s.port .kl).link = true ∧
      s.auth.record = .remote ∧ ({ frame with authority := ⟨.active, some .a, none⟩ }).intent = none) ∧
    (∃ s : State, Settled s ∧
      Brings 5 (consistPage1 ({ frame with authority := ⟨.claiming, none, none⟩ })) ({ frame with authority := ⟨.claiming, none, none⟩ }) s ∧
      StaysCoupled ({ frame with authority := ⟨.claiming, none, none⟩ }) s ∧ (s.port .kl).link = true ∧
      s.auth.record = .remote ∧ ({ frame with authority := ⟨.claiming, none, none⟩ }).authority.state = .claiming) ∧
    (∃ s : State, Settled s ∧
      Brings 5 (consistPage1 ({ frame with authority := ⟨.parked, none, some .a⟩ })) ({ frame with authority := ⟨.parked, none, some .a⟩ }) s ∧
      StaysCoupled ({ frame with authority := ⟨.parked, none, some .a⟩ }) s ∧ (s.port .kl).link = true ∧
      s.auth.record = .remote ∧ ({ frame with authority := ⟨.parked, none, some .a⟩ }).authority.state = .parked) ∧
    (∃ s : State, Settled s ∧
      Brings 5 (consistPage1 ({ frame with authority := ⟨.active, some .a, none⟩ })) ({ frame with authority := ⟨.active, some .a, none⟩ }) s ∧
      StaysCoupled ({ frame with authority := ⟨.active, some .a, none⟩ }) s ∧ TableSound s ∧
      (s.port .kl).link = true ∧ s.auth.record = .dark ∧
      ({ frame with authority := ⟨.active, some .a, none⟩ }).authority.state = .active) ∧
    (∃ s : State, Settled s ∧
      Brings 5 (consistPage1 ({ frame with authority := ⟨.active, some .a, none⟩ })) ({ frame with authority := ⟨.active, some .a, none⟩ }) s ∧
      StaysCoupled ({ frame with authority := ⟨.active, some .a, none⟩ }) s ∧ TableSound s ∧
      (s.port .kl).link = true ∧ s.auth.record = .parked .b 5 ∧
      ({ frame with authority := ⟨.active, some .a, none⟩ }).authority.state = .active) ∧
    (∃ s : State, Settled s ∧ Brings 5 (consistPage1 (frame)) (frame) s ∧ StaysCoupled (frame) s ∧
      (s.port .kl).link = true ∧ s.auth.record = .active .a ∧ frame.intent = none) ∧
    (∃ s : State, Settled s ∧ Brings 5 (consistPage1 (frame)) (frame) s ∧ StaysCoupled (frame) s ∧
      (s.port .kl).link = true ∧ s.auth.record ≠ .remote ∧ frame.authority.state ≠ .active) ∧
    (∃ s : State, Settled s ∧
      Brings 5 (consistPage1 ({ frame with authority := ⟨.claiming, none, none⟩, intent := some 3 })) ({ frame with authority := ⟨.claiming, none, none⟩, intent := some 3 }) s ∧
      StaysCoupled ({ frame with authority := ⟨.claiming, none, none⟩, intent := some 3 }) s ∧
      (s.port .kl).link = true ∧
      ({ frame with authority := ⟨.claiming, none, none⟩, intent := some 3 }).intent = some 3 ∧
      ({ frame with authority := ⟨.claiming, none, none⟩, intent := some 3 }).authority.state = .claiming ∧
      s.auth.answered = some (3, true) ∧ s.auth.record = .dark) ∧
    (∃ s : State, Settled s ∧
      Brings 5 (consistPage1 ({ frame with authority := ⟨.claiming, none, none⟩, intent := some 3 })) ({ frame with authority := ⟨.claiming, none, none⟩, intent := some 3 }) s ∧
      StaysCoupled ({ frame with authority := ⟨.claiming, none, none⟩, intent := some 3 }) s ∧
      (s.port .kl).link = true ∧
      ({ frame with authority := ⟨.claiming, none, none⟩, intent := some 3 }).intent = some 3 ∧
      ({ frame with authority := ⟨.claiming, none, none⟩, intent := some 3 }).authority.state = .claiming ∧
      s.auth.answered = none ∧ s.auth.record = .active .a) ∧
    (∃ s : State, Settled s ∧
      Brings 5 (consistPage1 ({ frame with authority := ⟨.claiming, none, none⟩, intent := some 3 })) ({ frame with authority := ⟨.claiming, none, none⟩, intent := some 3 }) s ∧
      StaysCoupled ({ frame with authority := ⟨.claiming, none, none⟩, intent := some 3 }) s ∧
      (s.port .kl).link = true ∧
      ({ frame with authority := ⟨.claiming, none, none⟩, intent := some 3 }).intent = some 3 ∧
      ({ frame with authority := ⟨.claiming, none, none⟩, intent := some 3 }).authority.state = .claiming ∧
      s.auth.answered = none ∧ s.speed.standstill = false) ∧
    (∃ s : State, Settled s ∧
      Brings 5 (consistPage1 ({ frame with authority := ⟨.claiming, none, none⟩, intent := some 3 })) ({ frame with authority := ⟨.claiming, none, none⟩, intent := some 3 }) s ∧
      StaysCoupled ({ frame with authority := ⟨.claiming, none, none⟩, intent := some 3 }) s ∧ TableSound s ∧
      (s.port .kl).link = true ∧
      ({ frame with authority := ⟨.claiming, none, none⟩, intent := some 3 }).intent = some 3 ∧
      ({ frame with authority := ⟨.claiming, none, none⟩, intent := some 3 }).authority.state = .claiming ∧
      s.auth.answered = none ∧ s.speed.standstill = true ∧ s.auth.record = .dark) ∧
    (∃ s : State, Settled s ∧
      Brings 5 (consistPage1 ({ frame with authority := ⟨.claiming, none, none⟩, intent := some 3 })) ({ frame with authority := ⟨.claiming, none, none⟩, intent := some 3 }) s ∧
      StaysCoupled ({ frame with authority := ⟨.claiming, none, none⟩, intent := some 3 }) s ∧
      (s.port .kl).link = true ∧
      ({ frame with authority := ⟨.claiming, none, none⟩, intent := some 3 }).intent = some 3 ∧
      ({ frame with authority := ⟨.claiming, none, none⟩, intent := some 3 }).authority.state = .claiming ∧
      s.auth.answered = none ∧ s.speed.standstill = true ∧ s.auth.record = .remote) ∧
    (∃ s : State, Settled s ∧
      Brings 5 (consistPage1 ({ frame with authority := ⟨.claiming, none, none⟩, intent := some 3 })) ({ frame with authority := ⟨.claiming, none, none⟩, intent := some 3 }) s ∧
      StaysCoupled ({ frame with authority := ⟨.claiming, none, none⟩, intent := some 3 }) s ∧
      (s.port .kl).link = true ∧
      ({ frame with authority := ⟨.claiming, none, none⟩, intent := some 3 }).intent = some 3 ∧
      ({ frame with authority := ⟨.claiming, none, none⟩, intent := some 3 }).authority.state = .claiming ∧
      s.auth.answered = none ∧ s.speed.standstill = true ∧ s.auth.record = .claiming ⟨.a, 9, 1, .dark⟩ ∧
      s.vl.rank < ({ frame with authority := ⟨.claiming, none, none⟩, intent := some 3 }).rank ∧
      ({ frame with authority := ⟨.claiming, none, none⟩, intent := some 3 }).answer = none) ∧
    (∃ s : State, Settled s ∧
      Brings 5 (consistPage1 ({ frame with authority := ⟨.claiming, none, none⟩, intent := some 3 })) ({ frame with authority := ⟨.claiming, none, none⟩, intent := some 3 }) s ∧
      StaysCoupled ({ frame with authority := ⟨.claiming, none, none⟩, intent := some 3 }) s ∧ TableSound s ∧
      (s.port .kl).link = true ∧
      ({ frame with authority := ⟨.claiming, none, none⟩, intent := some 3 }).intent = some 3 ∧
      ({ frame with authority := ⟨.claiming, none, none⟩, intent := some 3 }).authority.state = .claiming ∧
      s.auth.answered = none ∧ s.speed.standstill = true ∧ s.auth.record = .claiming ⟨.a, 9, 1, .dark⟩ ∧
      ({ frame with authority := ⟨.claiming, none, none⟩, intent := some 3 }).rank < s.vl.rank ∧
      (s.port .ca).unanswered = some ⟨0x10, 5, []⟩) :=
  ⟨⟨settle base, settled_of (by decide +kernel), by decide +kernel⟩,
   ⟨settle base, settled_of (by decide +kernel), by decide +kernel⟩,
   ⟨settle ((fun s => s.withAssembly (some (4, consistPage0 frame))) <| base), settled_of (by decide +kernel),
     by decide +kernel⟩,
   ⟨settle ((fun s => s.withAssembly (some (5, consistPage0 frame))) <| base), settled_of (by decide +kernel),
     awake_of (by decide +kernel), consist_of (by decide +kernel) (by decide +kernel) (by decide +kernel),
     by decide +kernel⟩,
   ⟨settle ((fun s => s.withAssembly (some (5, consistPage0 frame))) <| consist ⟨.joining, none, some (2, 1), 2,
     some frame, some 50, some .b, none⟩ <| base), settled_of (by decide +kernel), awake_of (by decide +kernel),
     consist_of (by decide +kernel) (by decide +kernel) (by decide +kernel), by decide +kernel⟩,
   ⟨settle (brings ({ frame with authority := ⟨.active, some .a, none⟩ }) <| auth .remote <| coupled .neutral <| base),
     settled_of (by decide +kernel), brings_of (by decide +kernel),
     stays_of (consist_of (by decide +kernel) (by decide +kernel) (by decide +kernel)) (by decide +kernel),
     by decide +kernel⟩,
   ⟨settle (brings ({ frame with authority := ⟨.claiming, none, none⟩ }) <| auth .remote <| coupled .neutral <| base),
     settled_of (by decide +kernel), brings_of (by decide +kernel),
     stays_of (consist_of (by decide +kernel) (by decide +kernel) (by decide +kernel)) (by decide +kernel),
     by decide +kernel⟩,
   ⟨settle (brings ({ frame with authority := ⟨.parked, none, some .a⟩ }) <| auth .remote <| coupled .neutral <| base),
     settled_of (by decide +kernel), brings_of (by decide +kernel),
     stays_of (consist_of (by decide +kernel) (by decide +kernel) (by decide +kernel)) (by decide +kernel),
     by decide +kernel⟩,
   ⟨settle (brings ({ frame with authority := ⟨.active, some .a, none⟩ }) <|  coupled .neutral <| base),
     settled_of (by decide +kernel), brings_of (by decide +kernel),
     stays_of (consist_of (by decide +kernel) (by decide +kernel) (by decide +kernel)) (by decide +kernel),
     table_of (by decide +kernel), by decide +kernel⟩,
   ⟨settle (brings ({ frame with authority := ⟨.active, some .a, none⟩ }) <| auth (.parked .b 5) <| coupled .neutral <| base),
     settled_of (by decide +kernel), brings_of (by decide +kernel),
     stays_of (consist_of (by decide +kernel) (by decide +kernel) (by decide +kernel)) (by decide +kernel),
     table_of (by decide +kernel), by decide +kernel⟩,
   ⟨settle (brings (frame) <| auth (.active .a) <| coupled .lead <| base), settled_of (by decide +kernel),
     brings_of (by decide +kernel),
     stays_of (consist_of (by decide +kernel) (by decide +kernel) (by decide +kernel)) (by decide +kernel),
     by decide +kernel⟩,
   ⟨settle (brings (frame) <|  coupled .neutral <| base), settled_of (by decide +kernel),
     brings_of (by decide +kernel),
     stays_of (consist_of (by decide +kernel) (by decide +kernel) (by decide +kernel)) (by decide +kernel),
     by decide +kernel⟩,
   ⟨settle (brings ({ frame with authority := ⟨.claiming, none, none⟩, intent := some 3 }) <| (fun s => s.withAuth { s.auth with answered := some (3, true) }) <| coupled .neutral <| base),
     settled_of (by decide +kernel), brings_of (by decide +kernel),
     stays_of (consist_of (by decide +kernel) (by decide +kernel) (by decide +kernel)) (by decide +kernel),
     by decide +kernel⟩,
   ⟨settle (brings ({ frame with authority := ⟨.claiming, none, none⟩, intent := some 3 }) <| auth (.active .a) <| coupled .lead <| base),
     settled_of (by decide +kernel), brings_of (by decide +kernel),
     stays_of (consist_of (by decide +kernel) (by decide +kernel) (by decide +kernel)) (by decide +kernel),
     by decide +kernel⟩,
   ⟨settle (brings ({ frame with authority := ⟨.claiming, none, none⟩, intent := some 3 }) <| fast 5 <| coupled .neutral <| base),
     settled_of (by decide +kernel), brings_of (by decide +kernel),
     stays_of (consist_of (by decide +kernel) (by decide +kernel) (by decide +kernel)) (by decide +kernel),
     by decide +kernel⟩,
   ⟨settle (brings ({ frame with authority := ⟨.claiming, none, none⟩, intent := some 3 }) <|  coupled .neutral <| base),
     settled_of (by decide +kernel), brings_of (by decide +kernel),
     stays_of (consist_of (by decide +kernel) (by decide +kernel) (by decide +kernel)) (by decide +kernel),
     table_of (by decide +kernel), by decide +kernel⟩,
   ⟨settle (brings ({ frame with authority := ⟨.claiming, none, none⟩, intent := some 3 }) <| auth .remote <| coupled .neutral <| base),
     settled_of (by decide +kernel), brings_of (by decide +kernel),
     stays_of (consist_of (by decide +kernel) (by decide +kernel) (by decide +kernel)) (by decide +kernel),
     by decide +kernel⟩,
   ⟨settle (brings ({ frame with authority := ⟨.claiming, none, none⟩, intent := some 3 }) <| auth (.claiming ⟨.a, 9,
     1, .dark⟩) <| port .ca (fun x => { x with unanswered := some ⟨0x10, 5, []⟩ }) <| coupled .neutral <| base),
     settled_of (by decide +kernel), brings_of (by decide +kernel),
     stays_of (consist_of (by decide +kernel) (by decide +kernel) (by decide +kernel)) (by decide +kernel),
     by decide +kernel⟩,
   ⟨settle (brings ({ frame with authority := ⟨.claiming, none, none⟩, intent := some 3 }) <| auth (.claiming ⟨.a, 9,
     1,
     .dark⟩) <| port .ca (fun x => { x with unanswered := some ⟨0x10, 5, []⟩ }) <| vl (fun x => { x with rank := 2 }) <| coupled .neutral <| base),
     settled_of (by decide +kernel), brings_of (by decide +kernel),
     stays_of (consist_of (by decide +kernel) (by decide +kernel) (by decide +kernel)) (by decide +kernel),
     table_of (by decide +kernel), by decide +kernel⟩⟩

theorem witness_BadFramesAndSilence :
    (∃ s : State, Settled s ∧ (s.port .ca).link = true) ∧
    (∃ s : State, Settled s ∧ (s.port .vl).silence ≠ none) ∧
    (∃ s : State, Settled s ∧ (s.port .kl).silence ≠ none) ∧
    (∃ s : State, Settled s ∧ (∀ i, s.auth.record = .claiming i → i.claimant ≠ .a) ∧ (s.port .ca).silence ≠ none ∧
      s.auth.record ≠ .active .a) ∧
    (∃ s : State, Settled s ∧ Unpaired s ∧ (s.port .ca).silence ≠ none ∧ s.auth.record = .active .a ∧
      s.consist.state ≠ .conflict ∧ s.emerg.recorded = 0) ∧
    (∃ s : State, Settled s ∧ (s.port .ca).link = false ∧ s.auth.record ≠ .active .a) ∧
    (∃ s : State, Settled s ∧ (s.port .ca).link = false ∧ s.auth.record = .active .a) ∧
    (∃ s : State, Settled s ∧ LadderSound s ∧ (s.port .vl).link = false ∧
      s.emerg.divisor < ({ s.emerg.demands with vehicle := some 8 } : Demands).target) ∧
    (∃ s : State, Settled s ∧ (s.port .kl).link = false ∧ (consistPage0 frame).head? = some 0x02 ∧
      consistOf (consistPage0 frame) [0x12, 0, 0, 0, 0, 0, 0, 0, 0, 0, 0] ≠ none) :=
  ⟨⟨settle base, settled_of (by decide +kernel), by decide +kernel⟩,
   ⟨settle (port .vl (fun x => { x with silence := some 0 }) <| base), settled_of (by decide +kernel),
     by decide +kernel⟩,
   ⟨settle (port .kl (fun x => { x with silence := some 0 }) <| base), settled_of (by decide +kernel),
     by decide +kernel⟩,
   ⟨settle (port .ca (fun x => { x with silence := some 0 }) <| base), settled_of (by decide +kernel),
     noClaim_of (by decide +kernel), by decide +kernel⟩,
   ⟨settle (auth (.active .a) <| port .ca (fun x => { x with silence := some 0 }) <| base),
     settled_of (by decide +kernel), unpaired_of (by decide +kernel), by decide +kernel⟩,
   ⟨settle (port .ca (fun x => { x with link := false, silence := none }) <| base), settled_of (by decide +kernel),
     by decide +kernel⟩,
   ⟨settle (port .ca (fun x => { x with link := false, silence := none }) <| auth (.active .a) <| base),
     settled_of (by decide +kernel), by decide +kernel⟩,
   ⟨settle (port .vl (fun x => { x with link := false, silence := none }) <| emerg (fun x => { x with divisor := 1, settle := none }) <| base),
     settled_of (by decide +kernel), ladder_of (by decide +kernel), by decide +kernel⟩,
   ⟨settle (port .kl (fun x => { x with link := false, silence := none }) <| base), settled_of (by decide +kernel),
     by decide +kernel⟩⟩

theorem witness_TransmitterAndDueTimes :
    (∃ s : State, Settled s ∧ (s.port .vl).transmit = TxEntry.notice 0 :: List.replicate 7 (.notice 0) ∧
      (s.port .vl).heldAnswer = none ∧ s.vl.owed = false) ∧
    (∃ s : State, Settled s ∧ (s.port .vl).transmit = TxEntry.notice 0 :: List.replicate 7 (.notice 0) ∧
      (s.port .vl).heldAnswer = some (.accepted 0x28 5 []) ∧ s.vl.owed = false) ∧
    (∃ s : State, Settled s ∧ (s.port .vl).transmit = TxEntry.notice 0 :: List.replicate 7 (.notice 0) ∧
      (s.port .vl).heldAnswer = none ∧ s.vl.owed = true ∧ s.vl.flags &&& s.vl.mask ≠ 0) ∧
    (∃ s : State, Settled s ∧ (∀ n, s.auth.record ≠ .stabled n) ∧ (s.port (endPort .a)).transmit.length < 8) ∧
    (∃ s : State, Settled s ∧ (∃ n, s.auth.record = .stabled n)) ∧
    (∃ s : State, Settled s ∧ 8 ≤ (s.port (endPort .a)).transmit.length ∧ 8 ≤ (s.port .kl).transmit.length) ∧
    (∃ s : State, Settled s ∧ (∀ n, s.auth.record ≠ .stabled n) ∧ (s.port .kl).transmit.length < 8 ∧
      s.auth.record = .remote) ∧
    (∃ s : State, Settled s ∧ Nearest s (record 7 (some .left) .set) ∧ s.consist.role = some .lead ∧
      s.auth.record = .active .b ∧ s.consist.latest = some frame) ∧
    (∃ s : State, Settled s ∧ s.auth.record = .claiming ⟨.a, 9, 1, .dark⟩ ∧ s.consist.role ≠ some .lead ∧
      (∀ x ∈ s.junction.records, x.state = .onPoint)) :=
  ⟨⟨settle (port .vl (fun x => { x with transmit := List.replicate 8 (.notice 0), wire := 0 }) <| base),
  settled_of (by decide +kernel), by decide +kernel⟩,
   ⟨settle (port .vl (fun x => { x with transmit := List.replicate 8 (.notice 0), wire := 0, heldAnswer := some (.accepted 0x28 5 []) }) <| base),
     settled_of (by decide +kernel), by decide +kernel⟩,
   ⟨settle (vl (fun x => { x with owed := true, flags := 1 }) <| port .vl (fun x => { x with transmit := List.replicate 8 (.notice 0), wire := 0 }) <| base),
     settled_of (by decide +kernel), by decide +kernel⟩,
   ⟨settle (port .ca (fun x => { x with transmit := List.replicate 7 (.notice 0) }) <| base),
     settled_of (by decide +kernel), awake_of (by decide +kernel), by decide +kernel⟩,
   ⟨settle (auth (.stabled 0) <| base), settled_of (by decide +kernel), stabled_of 0 (by decide +kernel)⟩,
   ⟨settle (port .ca (fun x => { x with transmit := List.replicate 8 (.notice 0) }) <| port .kl (fun x => { x with transmit := List.replicate 8 (.notice 0) }) <| base),
     settled_of (by decide +kernel), by decide +kernel⟩,
   ⟨settle (auth .remote <| coupled .neutral <| base), settled_of (by decide +kernel), awake_of (by decide +kernel),
     by decide +kernel⟩,
   ⟨settle (auth (.active .b) <| coupled .lead <| table [record 7 (some .left) .set, record 8 none .onPoint] <| base),
     settled_of (by decide +kernel), nearest_of (by decide +kernel), by decide +kernel⟩,
   ⟨settle (auth (.claiming ⟨.a, 9, 1, .dark⟩) <| coupled .neutral <| table [record 8 none .onPoint] <| base),
     settled_of (by decide +kernel), by decide +kernel⟩⟩

theorem witness_KeyLines :
    (∃ s : State, Settled s ∧ (∀ n, s.auth.record = .stabled n → 6 ≤ n) ∧ s.pins.key.get .a = false) ∧
    (∃ s : State, Settled s ∧ ConsistSound s ∧ s.pins.key.get .a = false ∧ s.auth.record = .stabled 5 ∧ 5 < 6 ∧
      s.pins.passengerClosed = true) ∧
    (∃ s : State, Settled s ∧ (∀ i, s.auth.record = .claiming i → i.claimant ≠ .a) ∧ s.pins.key.get .a = true ∧
      s.auth.record ≠ .active .a) ∧
    (∃ s : State, Settled s ∧ Unpaired s ∧ s.pins.key.get .a = true ∧ s.auth.record = .active .a ∧
      s.consist.state ≠ .conflict ∧ s.speed.standstill = true) ∧
    (∃ s : State, Settled s ∧ Unpaired s ∧ s.pins.key.get .a = true ∧ s.auth.record = .active .a ∧
      s.consist.state ≠ .conflict ∧ s.speed.standstill = false ∧ s.emerg.recorded = 0) ∧
    (∃ s : State, Settled s ∧ Paired s ∧ ConsistSound s ∧ s.pins.key.get .a = true ∧ s.auth.record = .claiming ⟨.a, 9,
      1, .parked .b 8⟩ ∧ (s.port (endPort .a)).transmit.length < 8 ∧ (s.port (endPort .a)).unanswered = some ⟨0x10, 5,
      []⟩) ∧
    (∃ s : State, Settled s ∧ s.pins.key.get .a = true ∧ s.auth.record = .active .a) ∧
    (∃ s : State, Settled s ∧ Paired s ∧ ConsistSound s ∧ TableSound s ∧ s.pins.key.get .a = true ∧
      s.auth.record = .claiming ⟨.a, 9, 1, .dark⟩ ∧ (s.port .ca).unanswered = some ⟨0x10, 5, []⟩ ∧
      s.junction.records = [] ∧ s.wayside.held = none) :=
  ⟨⟨settle (pins (fun x => { x with key := ⟨false, true⟩ }) <| base), settled_of (by decide +kernel),
  fun n h => absurd h (awake_of (by decide +kernel) n), by decide +kernel⟩,
   ⟨settle (pins (fun x => { x with key := ⟨false, true⟩ }) <| auth (.stabled 5) <| base),
     settled_of (by decide +kernel), consist_of (by decide +kernel) (by decide +kernel) (by decide +kernel),
     by decide +kernel⟩,
   ⟨settle base, settled_of (by decide +kernel), noClaim_of (by decide +kernel), by decide +kernel⟩,
   ⟨settle (auth (.active .a) <| base), settled_of (by decide +kernel), unpaired_of (by decide +kernel),
     by decide +kernel⟩,
   ⟨settle (auth (.active .a) <| fast 5 <| base), settled_of (by decide +kernel), unpaired_of (by decide +kernel),
     by decide +kernel⟩,
   ⟨settle (auth (.claiming ⟨.a, 9, 1,
     .parked .b 8⟩) <| coupled .neutral <| port .ca (fun x => { x with unanswered := some ⟨0x10, 5, []⟩ }) <| base),
     settled_of (by decide +kernel), paired_of (by decide +kernel),
     consist_of (by decide +kernel) (by decide +kernel) (by decide +kernel), by decide +kernel⟩,
   ⟨settle (auth (.active .a) <| fast 5 <| latched .lever <| coupled .lead <| base), settled_of (by decide +kernel),
     by decide +kernel⟩,
   ⟨settle (auth (.claiming ⟨.a, 9, 1,
     .dark⟩) <| port .ca (fun x => { x with unanswered := some ⟨0x10, 5, []⟩ }) <| coupled .neutral <| base),
     settled_of (by decide +kernel), paired_of (by decide +kernel),
     consist_of (by decide +kernel) (by decide +kernel) (by decide +kernel), table_of (by decide +kernel),
     by decide +kernel⟩⟩

theorem witness_LoopsAndAxlePulses :
    (∃ s : State, Settled s ∧ s.pins.doorClosed = true ∧ s.auth.record = .stabled 3 ∧ 3 ≤ 3) ∧
    (∃ s : State, Settled s ∧ ConsistSound s ∧ s.pins.doorClosed = true ∧ s.auth.record = .stabled 2 ∧ 2 < 3 ∧
      s.pins.passengerClosed = true) ∧
    (∃ s : State, Settled s ∧ (∀ n, s.auth.record ≠ .stabled n) ∧ s.pins.doorClosed = true ∧
      ((s.shownStop.phase = .none ∨ s.shownStop.phase = .requested) ∧ s.speed.standstill = false)) ∧
    (∃ s : State, Settled s ∧ s.pins.doorClosed = false ∧ s.stop.own.phase ≠ .departing) ∧
    (∃ s : State, Settled s ∧ s.pins.doorClosed = false ∧ s.stop.own.closeOdo = some 100 ∧
      (s.speed.odometer - 100).toNat < 20) ∧
    (∃ s : State, Settled s ∧ (∀ n, s.auth.record ≠ .stabled n) ∧ s.pins.passengerClosed = true ∧
      s.emerg.recorded = 0) ∧
    (∃ s : State, Settled s ∧ s.pins.passengerClosed = true ∧ s.auth.record = .stabled 3 ∧ 3 ≤ 3) ∧
    (∃ s : State, Settled s ∧ ConsistSound s ∧ s.pins.passengerClosed = true ∧ s.auth.record = .stabled 2 ∧ 2 < 3) ∧
    (∃ s : State, Settled s ∧ (∀ n, s.auth.record ≠ .stabled n) ∧ s.pins.doorClosed = false ∧
      s.stop.own.phase = .departing ∧ s.stop.own.closeOdo = some 0 ∧ 20 ≤ (s.speed.odometer - 0).toNat ∧
      s.stop.own.earlyPress = false ∧ s.wayside.held = none) ∧
    (∃ s : State, Settled s ∧ (∀ n, s.auth.record ≠ .stabled n) ∧ s.pins.doorClosed = false ∧
      s.stop.own.phase = .departing ∧ s.stop.own.closeOdo = some 0 ∧ 20 ≤ (s.speed.odometer - 0).toNat ∧
      s.stop.own.earlyPress = false ∧ s.wayside.held = some ⟨7, 3⟩ ∧ s.wayside.sending.isSome = true ∧
      s.wayside.sp.length < 2) ∧
    (∃ s : State, Settled s ∧ (∀ n, s.auth.record ≠ .stabled n) ∧ s.pins.doorClosed = false ∧
      s.stop.own.phase = .departing ∧ s.stop.own.closeOdo = some 0 ∧ 20 ≤ (s.speed.odometer - 0).toNat ∧
      s.stop.own.earlyPress = true ∧ s.wayside.held = none ∧ s.stop.own.earlyAssist = false ∧
      s.stop.own.earlyDoors.getLsbD 2 = true ∧ (∀ k < 2, s.stop.own.earlyDoors.getLsbD k = false)) :=
  ⟨⟨settle (auth (.stabled 3) <| base), settled_of (by decide +kernel), by decide +kernel⟩,
   ⟨settle (auth (.stabled 2) <| base), settled_of (by decide +kernel),
     consist_of (by decide +kernel) (by decide +kernel) (by decide +kernel), by decide +kernel⟩,
   ⟨settle (fast 5 <| base), settled_of (by decide +kernel), awake_of (by decide +kernel), by decide +kernel⟩,
   ⟨settle (pins (fun x => { x with doorClosed := false }) <| base), settled_of (by decide +kernel),
     by decide +kernel⟩,
   ⟨settle (pins (fun x => { x with doorClosed := false }) <| speed (fun x => { x with odometer := 119 }) <| doors { phase .departing with closeOdo := some 100 } <| base),
     settled_of (by decide +kernel), by decide +kernel⟩,
   ⟨settle base, settled_of (by decide +kernel), awake_of (by decide +kernel), by decide +kernel⟩,
   ⟨settle (auth (.stabled 3) <| base), settled_of (by decide +kernel), by decide +kernel⟩,
   ⟨settle (auth (.stabled 2) <| base), settled_of (by decide +kernel),
     consist_of (by decide +kernel) (by decide +kernel) (by decide +kernel), by decide +kernel⟩,
   ⟨settle (pins (fun x => { x with doorClosed := false }) <| speed (fun x => { x with odometer := 20 }) <| doors { phase .departing with closeOdo := some 0 } <| base),
     settled_of (by decide +kernel), awake_of (by decide +kernel), by decide +kernel⟩,
   ⟨settle (pins (fun x => { x with doorClosed := false }) <| speed (fun x => { x with odometer := 20 }) <| busy <| way (fun x => { x with held := some ⟨7, 3⟩ }) <| doors { phase .departing with closeOdo := some 0 } <| base),
     settled_of (by decide +kernel), awake_of (by decide +kernel), by decide +kernel⟩,
   ⟨settle (pins (fun x => { x with doorClosed := false }) <| speed (fun x => { x with odometer := 20 }) <| doors { phase .departing with closeOdo := some 0, earlyPress := true, earlyDoors := 0x000C } <| base),
     settled_of (by decide +kernel), awake_of (by decide +kernel), by decide +kernel⟩⟩

theorem witness_PeriodUpdateReadsTheAxles :
    (∃ s : State, Settled s ∧ (answer (exec (.periodUpdate ⟨true, true, true, true⟩) s)).speed.reference = some .t1 ∧
      (answer (exec (.periodUpdate ⟨true, true, true, true⟩) s)).speed.vRef < 5) ∧
    (∃ s : State, Settled s ∧ (answer (exec (.periodUpdate ⟨true, true, true, true⟩) s)).speed.reference = some .t1 ∧
      5 ≤ (answer (exec (.periodUpdate ⟨true, true, true, true⟩) s)).speed.vRef) ∧
    (∃ s : State, Settled s ∧ (answer (exec (.periodUpdate ⟨true, true, true, true⟩) s)).speed.reference = none) ∧
    (∃ s : State, Settled s ∧ (∃ z o, (answer (exec (.periodUpdate ⟨true, true, true,
      true⟩) s)).speed.axles.t1.health = .healthy z o) ∧ (∃ z o, (answer (exec (.periodUpdate ⟨true, true, true,
      true⟩) s)).speed.axles.t2.health = .healthy z o) ∧ 0 ≤ s.shaper.prev) ∧
    (∃ s : State, Settled s ∧ s.shaper.prev < 0 ∧ (answer (exec (.periodUpdate ⟨true, true, true,
      true⟩) s)).speed.reference = some .m1) ∧
    (∃ s : State, Settled s ∧ 0 ≤ s.shaper.prev ∧ (answer (exec (.periodUpdate ⟨true, true, true,
      true⟩) s)).speed.reference = some .t2) ∧
    (∃ s : State, Settled s ∧ 0 ≤ s.shaper.prev ∧ (answer (exec (.periodUpdate ⟨true, true, true,
      true⟩) s)).speed.reference = some .m2) ∧
    (∃ s : State, Settled s ∧ SoundsSound s ∧ s.speed.monitors[2].edge = .rising ∧ s.speed.monitors[2].above = false ∧
      10 ≤ (answer (exec (.periodUpdate ⟨true, true, true, true⟩) s)).speed.vRef ∧ (answer (exec (.periodUpdate ⟨true,
      true, true, true⟩) s)).vl.events.length < 32 ∧ s.auth.record = .active .a ∧
      (s.sound.channels.get (endBuzzer .a)).playing = none) ∧
    (∃ s : State, Settled s ∧ SoundsSound s ∧ s.speed.monitors[2].edge = .both ∧ s.speed.monitors[2].above = true ∧
      (answer (exec (.periodUpdate ⟨true, true, true, true⟩) s)).speed.vRef < 5 ∧ s.auth.record = .active .b ∧
      (s.sound.channels.get (endBuzzer .b)).playing = none) :=
  ⟨⟨settle base, settled_of (by decide +kernel), by decide +kernel⟩,
   ⟨settle (speed (fun x => { x with axles := ⟨⟨3, [3, 3, 3, 3, 3], 0, true, .healthy 0 0⟩, ⟨3, [3, 3, 3, 3, 3], 0, true, .healthy 0 0⟩, ⟨3, [3, 3, 3, 3, 3], 0, true, .healthy 0 0⟩, ⟨3, [3, 3, 3, 3, 3], 0, true, .healthy 0 0⟩⟩ }) <| base),
     settled_of (by decide +kernel), by decide +kernel⟩,
   ⟨settle (speed (fun x => { x with axles := ⟨⟨3, [3, 3, 3, 3, 3], 0, true, .faulted .zero 0⟩, ⟨3, [3, 3, 3, 3, 3], 0, true, .faulted .zero 0⟩, ⟨3, [3, 3, 3, 3, 3], 0, true, .faulted .zero 0⟩, ⟨3, [3, 3, 3, 3, 3], 0, true, .faulted .zero 0⟩⟩ }) <| base),
     settled_of (by decide +kernel), by decide +kernel⟩,
   ⟨settle base, settled_of (by decide +kernel), ⟨0, 0, by decide +kernel⟩, ⟨0, 0, by decide +kernel⟩,
     by decide +kernel⟩,
   ⟨settle (speed (fun x => { x with axles := ⟨⟨3, [3, 3, 3, 3, 3], 0, true, .healthy 0 0⟩, ⟨5, [5, 5, 5, 5, 5], 0, true, .healthy 0 0⟩, ⟨7, [7, 7, 7, 7, 7], 0, true, .healthy 0 0⟩, ⟨4, [4, 4, 4, 4, 4], 0, true, .healthy 0 0⟩⟩ }) <| shape (fun x => { x with prev := -30 }) <| base),
     settled_of (by decide +kernel), by decide +kernel⟩,
   ⟨settle (speed (fun x => { x with axles := ⟨⟨3, [3, 3, 3, 3, 3], 0, true, .healthy 0 0⟩, ⟨5, [5, 5, 5, 5, 5], 0, true, .healthy 0 0⟩, ⟨7, [7, 7, 7, 7, 7], 0, true, .healthy 0 0⟩, ⟨4, [4, 4, 4, 4, 4], 0, true, .healthy 0 0⟩⟩ }) <| base),
     settled_of (by decide +kernel), by decide +kernel⟩,
   ⟨settle (speed (fun x => { x with axles := ⟨⟨3, [3, 3, 3, 3, 3], 0, true, .faulted .zero 0⟩, ⟨5, [5, 5, 5, 5, 5], 0, true, .faulted .zero 0⟩, ⟨7, [7, 7, 7, 7, 7], 0, true, .healthy 0 0⟩, ⟨4, [4, 4, 4, 4, 4], 0, true, .healthy 0 0⟩⟩ }) <| base),
     settled_of (by decide +kernel), by decide +kernel⟩,
   ⟨settle (speed (fun x => { x with axles := ⟨⟨3, [3, 3, 3, 3, 3], 0, true, .healthy 0 0⟩, ⟨3, [3, 3, 3, 3, 3], 0, true, .healthy 0 0⟩, ⟨3, [3, 3, 3, 3, 3], 0, true, .healthy 0 0⟩, ⟨3, [3, 3, 3, 3, 3], 0, true, .healthy 0 0⟩⟩ }) <| auth (.active .a) <| speed (fun x => { x with monitors := x.monitors.set 2 ⟨5, .rising, some 6, false⟩ }) <| base),
     settled_of (by decide +kernel), sounds_of (by decide +kernel), by decide +kernel⟩,
   ⟨settle (speed (fun x => { x with axles := ⟨⟨0, [0, 0, 0, 0, 0], 0, true, .healthy 0 0⟩, ⟨0, [0, 0, 0, 0, 0], 0, true, .healthy 0 0⟩, ⟨0, [0, 0, 0, 0, 0], 0, true, .healthy 0 0⟩, ⟨0, [0, 0, 0, 0, 0], 0, true, .healthy 0 0⟩⟩ }) <| auth (.active .b) <| speed (fun x => { x with monitors := x.monitors.set 2 ⟨5, .both, some 6, true⟩ }) <| base),
     settled_of (by decide +kernel), sounds_of (by decide +kernel), by decide +kernel⟩⟩

/-- The four channels, each with its speed, its line and its health. -/
def channels (t1 t2 m1 m2 : Nat × Bool × Health) (s : State) : State :=
  let channel := fun x : Nat × Bool × Health => (⟨0, [0, 0, 0, 0, 0], x.1, x.2.1, x.2.2⟩ : AxleChannel)
  speed (fun x => { x with axles := ⟨channel t1, channel t2, channel m1, channel m2⟩ }) s

/-- A healthy channel of a speed. -/
def reads (n : Nat) : Nat × Bool × Health := (n, true, .healthy 0 0)

/-- A faulted channel that reads 0. -/
def lost : Nat × Bool × Health := (0, true, .faulted .open 0)

/-- The zero run of M2 ends with T1 at 8.0 km/h, the speed of the example of R28. -/
theorem test_zero_run_faults_beside_a_moving_channel :
    (axleGet (answer (exec (.zeroRunFault .m2)
      (channels (reads 80) (reads 0) lost (0, true, .healthy 19 0) base))).speed.axles .m2).health = .faulted .zero 0 := by
  decide +kernel

/-- The zero test cannot fault the last healthy channel, and SPEED is not set (R28, R33). -/
theorem test_zero_run_keeps_the_last_healthy_channel :
    let t := answer (exec (.zeroRunFault .m2) (channels lost lost lost (0, true, .healthy 19 0) base))
    healthyAxles t.speed.axles = [.m2] ∧ t.emerg.recorded = base.emerg.recorded := by decide +kernel

theorem witness_ChannelHealthRows :
    (∃ s : State, Settled s ∧ LadderSound s ∧ (axleGet s.speed.axles .m2).health = .healthy 19 0 ∧
      (axleGet s.speed.axles .m2).speed = 0 ∧ (∃ o ∈ healthyAxles s.speed.axles, o ≠ .m2 ∧
        50 ≤ (axleGet s.speed.axles o).speed) ∧ 19 ≤ 19 ∧ (axleGet s.speed.axles .m2).closed = true) ∧
    (∃ s : State, Settled s ∧ LadderSound s ∧ (axleGet s.speed.axles .m2).health = .healthy 19 0 ∧
      healthyAxles s.speed.axles = [.m2]) ∧
    (∃ s : State, Settled s ∧ LadderSound s ∧ (axleGet s.speed.axles .m2).health = .healthy 18 0 ∧ 18 < 19) ∧
    (∃ s : State, Settled s ∧ LadderSound s ∧ (axleGet s.speed.axles .m2).health = .healthy 19 19 ∧
      (axleGet s.speed.axles .m2).closed = false ∧ 19 ≤ 19) ∧
    (∃ s : State, Settled s ∧ LadderSound s ∧ (axleGet s.speed.axles .m2).health = .healthy 0 19 ∧
      (axleGet s.speed.axles .m2).closed = false ∧ 19 ≤ 19 ∧ healthyAxles s.speed.axles = [.m2]) ∧
    (∃ s : State, Settled s ∧ LadderSound s ∧ (axleGet s.speed.axles .m2).health = .healthy 0 18 ∧
      (axleGet s.speed.axles .m2).closed = false ∧ 18 < 19) ∧
    (∃ s : State, Settled s ∧ LadderSound s ∧ (axleGet s.speed.axles .m2).health = .faulted .open 249 ∧
      (axleGet s.speed.axles .m2).closed = true ∧ healthyAxles s.speed.axles ≠ [] ∧
      (axleGet s.speed.axles .m2).speed = s.speed.vRef + 20 ∧ 249 ≤ 249) ∧
    (∃ s : State, Settled s ∧ LadderSound s ∧ (axleGet s.speed.axles .m2).health = .faulted .zero 249 ∧
      (axleGet s.speed.axles .m2).closed = true ∧ healthyAxles s.speed.axles = [] ∧
      (axleGet s.speed.axles .m1).closed = true ∧ (axleGet s.speed.axles .m1).speed = 0 ∧
      (axleGet s.speed.axles .m2).speed = 20 ∧ 249 ≤ 249) ∧
    (∃ s : State, Settled s ∧ LadderSound s ∧ (axleGet s.speed.axles .m2).health = .faulted .open 249 ∧
      (axleGet s.speed.axles .m2).closed = false) ∧
    (∃ s : State, Settled s ∧ LadderSound s ∧ (axleGet s.speed.axles .m2).health = .faulted .open 248 ∧ 248 < 249) ∧
    (∃ s t : State, LadderSound s ∧ exec (.zeroRunFault .m2) s = .next t ∧ healthyAxles s.speed.axles ≠ []) :=
  ⟨⟨settle (channels (reads 50) lost lost (0, true, .healthy 19 0) <| base), settled_of (by decide +kernel), ladder_of (by decide +kernel), by decide +kernel⟩,
   ⟨settle (channels lost lost lost (0, true, .healthy 19 0) <| base), settled_of (by decide +kernel), ladder_of (by decide +kernel), by decide +kernel⟩,
   ⟨settle (channels (reads 50) lost lost (0, true, .healthy 18 0) <| base), settled_of (by decide +kernel), ladder_of (by decide +kernel), by decide +kernel⟩,
   ⟨settle (channels (reads 50) lost lost (0, false, .healthy 19 19) <| base), settled_of (by decide +kernel), ladder_of (by decide +kernel), by decide +kernel⟩,
   ⟨settle (channels lost lost lost (9, false, .healthy 0 19) <| base), settled_of (by decide +kernel), ladder_of (by decide +kernel), by decide +kernel⟩,
   ⟨settle (channels lost lost lost (9, false, .healthy 0 18) <| base), settled_of (by decide +kernel), ladder_of (by decide +kernel), by decide +kernel⟩,
   ⟨settle (channels (reads 0) lost lost (20, true, .faulted .open 249) <| base), settled_of (by decide +kernel), ladder_of (by decide +kernel), by decide +kernel⟩,
   ⟨settle (channels lost lost lost (20, true, .faulted .zero 249) <| base), settled_of (by decide +kernel), ladder_of (by decide +kernel), by decide +kernel⟩,
   ⟨settle (channels (reads 0) lost lost (0, false, .faulted .open 249) <| base), settled_of (by decide +kernel), ladder_of (by decide +kernel), by decide +kernel⟩,
   ⟨settle (channels (reads 0) lost lost (0, true, .faulted .open 248) <| base), settled_of (by decide +kernel), ladder_of (by decide +kernel), by decide +kernel⟩,
   ⟨channels lost lost lost (0, true, .healthy 19 0) base, _, ladder_of (by decide +kernel), rfl, by decide +kernel⟩⟩

theorem witness_PeriodCountRows :
    (∃ s : State, Settled s ∧ s.speed.reference ≠ none ∧ s.speed.vRef < 5 ∧ 24 ≤ s.speed.lowRun) ∧
    (∃ s : State, Settled s ∧ (∀ n, s.auth.record ≠ .stabled n) ∧ s.shaper.adhesion = .slip ∧ 4 ≤ s.shaper.calm ∧
      s.shaper.prev = 40 ∧ .m1 ∈ healthyAxles s.speed.axles ∧
      ∀ c ∈ healthyAxles s.speed.axles, c = .m1 ∨ c = .m2 → (axleGet s.speed.axles c).speed < s.speed.vRef + 5) ∧
    (∃ s : State, Settled s ∧ 0 < s.shaper.prev ∧ s.shaper.released = false ∧ s.shaper.adhesion = .slip ∧
      4 ≤ s.shaper.calm ∧ .m1 ∈ healthyAxles s.speed.axles ∧
      (axleGet s.speed.axles .m1).speed = s.speed.vRef + 5) ∧
    (∃ s : State, Settled s ∧ (∀ n, s.auth.record ≠ .stabled n) ∧ s.shaper.adhesion = .recover ∧ 98 ≤ s.shaper.cap ∧
      s.shaper.prev = -40 ∧ s.shaper.released = false ∧
      ∀ c ∈ healthyAxles s.speed.axles, s.speed.vRef ≤ (axleGet s.speed.axles c).speed + 15) ∧
    (∃ s : State, Settled s ∧ s.shaper.prev < 0 ∧ s.shaper.released = false ∧ s.shaper.adhesion = .recover ∧
      98 ≤ s.shaper.cap ∧ .m2 ∈ healthyAxles s.speed.axles ∧
      (axleGet s.speed.axles .m2).speed + 15 < s.speed.vRef) ∧
    (∃ s : State, Settled s ∧ LadderSound s ∧ (∃ age ∈ s.shaper.history, 249 ≤ age) ∧
      (s.shaper.history.filter fun age => decide (age < 249)).length < 3) ∧
    (∃ s : State, Settled s ∧ LadderSound s ∧ (∃ age ∈ s.shaper.history, 249 ≤ age) ∧ s.emerg.demands.adhesion ≠ none) ∧
    (∃ s : State, Settled s ∧ (∀ n, s.auth.record ≠ .stabled n) ∧ s.shaper.dwell = 1) ∧
    (∃ s : State, Settled s ∧ (∃ n, s.auth.record = .stabled n) ∧ s.shaper.dwell = 1 ∧ s.shaper.adhesion = .slip ∧
      4 ≤ s.shaper.calm) :=
  ⟨⟨settle (speed (fun x => { x with standstill := false, lowRun := 24, vRef := 4 }) <| base),
  settled_of (by decide +kernel), by decide +kernel⟩,
   ⟨settle (shape (fun x => { x with adhesion := .slip, calm := 4, prev := 40 }) <|
       channels (reads 50) (reads 50) (reads 54) lost <| speed (fun x => { x with vRef := 50 }) <| base),
     settled_of (by decide +kernel), awake_of (by decide +kernel), by decide +kernel⟩,
   ⟨settle (shape (fun x => { x with adhesion := .slip, calm := 4, prev := 40 }) <|
       channels (reads 50) (reads 50) (reads 55) lost <| speed (fun x => { x with vRef := 50 }) <| base),
     settled_of (by decide +kernel), by decide +kernel⟩,
   ⟨settle (shape (fun x => { x with adhesion := .recover, cap := 98, prev := -40 }) <|
       channels (reads 50) (reads 50) (reads 35) lost <| speed (fun x => { x with vRef := 50 }) <| base),
     settled_of (by decide +kernel), awake_of (by decide +kernel), by decide +kernel⟩,
   ⟨settle (shape (fun x => { x with adhesion := .recover, cap := 98, prev := -40 }) <|
       channels (reads 50) (reads 50) lost (reads 34) <| speed (fun x => { x with vRef := 50 }) <| base),
     settled_of (by decide +kernel), by decide +kernel⟩,
   ⟨settle (shape (fun x => { x with history := [249, 3, 2] }) <| base), settled_of (by decide +kernel),
     ladder_of (by decide +kernel), by decide +kernel⟩,
   ⟨settle (emerg (fun x => { x with demands := { x.demands with adhesion := some 2 } }) <| shape (fun x => { x with history := [249, 3, 2, 1] }) <| base),
     settled_of (by decide +kernel), ladder_of (by decide +kernel), by decide +kernel⟩,
   ⟨settle (shape (fun x => { x with dwell := 1 }) <| base), settled_of (by decide +kernel),
     awake_of (by decide +kernel), by decide +kernel⟩,
   ⟨settle (auth (.stabled 0) <| shape (fun x => { x with adhesion := .slip, calm := 4, dwell := 1 }) <| base),
     settled_of (by decide +kernel), stabled_of 0 (by decide +kernel), by decide +kernel⟩⟩

theorem witness_RecordTimers :
    (∃ s : State, Settled s ∧ TableSound s ∧ s.auth.record = .parked .a 0) ∧
    (∃ s : State, Settled s ∧ Unpaired s ∧ NoneOnPoint s ∧ s.auth.record = .parked .a 0 ∧
      s.consist.state ≠ .conflict ∧ s.junction.records = [] ∧ s.wayside.held = none) ∧
    (∃ s : State, Settled s ∧ s.auth.record = .claiming ⟨.a, 9, 1, .parked .b 0⟩ ∧ s.junction.records = [] ∧
      s.wayside.held = none) ∧
    (∃ s : State, Settled s ∧ Paired s ∧ ConsistSound s ∧ s.auth.record = .claiming ⟨.a, 0, 1, .parked .b 8⟩ ∧
      (s.port (endPort .a)).transmit.length < 8 ∧ (s.port (endPort .a)).unanswered = some ⟨0x10, 5, []⟩) :=
  ⟨⟨settle (auth (.parked .a 0) <| table [record 7 none .onPoint, record 8 none .unplanned] <| base),
  settled_of (by decide +kernel), table_of (by decide +kernel), by decide +kernel⟩,
   ⟨settle (auth (.parked .a 0) <| base), settled_of (by decide +kernel), unpaired_of (by decide +kernel),
     noneOnPoint_of (by decide +kernel), by decide +kernel⟩,
   ⟨settle (auth (.claiming ⟨.a, 9, 1, .parked .b 0⟩) <| coupled .neutral <| base), settled_of (by decide +kernel),
     by decide +kernel⟩,
   ⟨settle (auth (.claiming ⟨.a, 0, 1,
     .parked .b 8⟩) <| coupled .neutral <| port .ca (fun x => { x with unanswered := some ⟨0x10, 5, []⟩ }) <| base),
     settled_of (by decide +kernel), paired_of (by decide +kernel),
     consist_of (by decide +kernel) (by decide +kernel) (by decide +kernel), by decide +kernel⟩⟩

theorem witness_LadderAndVigilanceTimers :
    (∃ s : State, Settled s ∧ LadderSound s ∧ s.emerg.settle ≠ none ∧ s.emerg.demands.target < s.emerg.divisor ∧
      s.emerg.divisor = 8) ∧
    (∃ s : State, Settled s ∧ LadderSound s ∧ s.emerg.settle ≠ none ∧ s.emerg.demands.target < s.emerg.divisor ∧
      s.emerg.divisor = 6) ∧
    (∃ s : State, Settled s ∧ LadderSound s ∧ s.emerg.settle ≠ none ∧ s.emerg.demands.target < s.emerg.divisor ∧
      s.emerg.divisor = 4) ∧
    (∃ s : State, Settled s ∧ LadderSound s ∧ s.emerg.settle ≠ none ∧ s.emerg.demands.target < s.emerg.divisor ∧
      s.emerg.divisor = 3) ∧
    (∃ s : State, Settled s ∧ LadderSound s ∧ s.emerg.settle ≠ none ∧ s.emerg.demands.target < s.emerg.divisor ∧
      s.emerg.divisor = 2) ∧
    (∃ s : State, Settled s ∧ s.emerg.running = true ∧ s.auth.record = .active .a ∧ (s.slot .a).deadman = true ∧
      s.emerg.vigil = .quiet 60000 ∧ (s.sound.channels.get (endBuzzer .a)).playing = none) ∧
    (∃ s : State, Settled s ∧ s.emerg.running = true ∧ s.emerg.vigil = .warningHold 0 ∧ s.emerg.action = .warnOnly) ∧
    (∃ s : State, Settled s ∧ s.emerg.running = true ∧ s.emerg.vigil = .warningTime 0 ∧ s.emerg.action = .brake ∧
      s.emerg.recorded = 0) :=
  ⟨⟨settle (emerg (fun x => { x with divisor := 8, settle := some 0 }) <| base), settled_of (by decide +kernel),
  ladder_of (by decide +kernel), by decide +kernel⟩,
   ⟨settle (emerg (fun x => { x with divisor := 6, settle := some 0 }) <| base), settled_of (by decide +kernel),
     ladder_of (by decide +kernel), by decide +kernel⟩,
   ⟨settle (emerg (fun x => { x with divisor := 4, settle := some 0 }) <| base), settled_of (by decide +kernel),
     ladder_of (by decide +kernel), by decide +kernel⟩,
   ⟨settle (emerg (fun x => { x with divisor := 3, settle := some 0 }) <| base), settled_of (by decide +kernel),
     ladder_of (by decide +kernel), by decide +kernel⟩,
   ⟨settle (emerg (fun x => { x with divisor := 2, settle := some 0 }) <| base), settled_of (by decide +kernel),
     ladder_of (by decide +kernel), by decide +kernel⟩,
   ⟨settle (auth (.active .a) <| emerg (fun x => { x with running := true, vigil := .quiet 60000, action := .warnOnly }) <| base),
     settled_of (by decide +kernel), by decide +kernel⟩,
   ⟨settle (auth (.active .a) <| emerg (fun x => { x with running := true, vigil := .warningHold 0, action := .warnOnly }) <| base),
     settled_of (by decide +kernel), by decide +kernel⟩,
   ⟨settle (auth (.active .a) <| emerg (fun x => { x with running := true, vigil := .warningTime 0, action := .brake }) <| base),
     settled_of (by decide +kernel), by decide +kernel⟩⟩

theorem witness_JunctionTimers :
    (∃ s : State, Settled s ∧ TableSound s ∧
      s.record 7 = some ({ record 7 (some .left) .requested with reportTimer := some 0, reTimer := some 0 })) ∧
    (∃ s : State, Settled s ∧ TableSound s ∧ (∀ n, s.auth.record ≠ .stabled n) ∧
      s.record 7 = some ({ record 7 (some .left) .requested with reportTimer := some 0, reTimer := some 0 }) ∧
      s.wayside.sending.isSome = true) ∧
    (∃ s : State, Settled s ∧ TableSound s ∧ (∀ n, s.auth.record ≠ .stabled n) ∧
      s.record 7 = some ({ record 7 (some .left) .set with reTimer := some 0 }) ∧ s.wayside.sending.isSome = true) :=
  ⟨⟨settle (table [{ record 7 (some .left) .requested with reportTimer := some 0, reTimer := some 0 }] <| base),
  settled_of (by decide +kernel), table_of (by decide +kernel), by decide +kernel⟩,
   ⟨settle (busy <| table [{ record 7 (some .left) .requested with reportTimer := some 0, reTimer := some 0 }] <| base),
     settled_of (by decide +kernel), table_of (by decide +kernel), awake_of (by decide +kernel), by decide +kernel⟩,
   ⟨settle (busy <| table [{ record 7 (some .left) .set with reTimer := some 0 }] <| base),
     settled_of (by decide +kernel), table_of (by decide +kernel), awake_of (by decide +kernel), by decide +kernel⟩⟩

theorem witness_DistanceRows :
    (∃ s : State, Settled s ∧ (∀ n, s.auth.record ≠ .stabled n) ∧ TableSound s ∧
      s.record 7 = some (record 7 (some .left) .locked) ∧ runsOut s (record 7 (some .left) .locked) ≤ 0) ∧
    (∃ s : State, Settled s ∧ (∀ n, s.auth.record ≠ .stabled n) ∧ TableSound s ∧
      s.record 7 = some ({ record 7 (some .left) .set with permit := true }) ∧
      runsOut s (record 7 (some .left) .set) ≤ 0) ∧
    (∃ s : State, Settled s ∧ (∀ n, s.auth.record ≠ .stabled n) ∧ TableSound s ∧
      s.record 7 = some (record 7 (some .left) .set) ∧ runsOut s (record 7 (some .left) .set) ≤ 0 ∧
      s.emerg.recorded = 0) ∧
    (∃ s : State, Settled s ∧ (∀ n, s.auth.record ≠ .stabled n) ∧ s.junction.overflow = some ⟨9, none, 100, 5, 5, 0,
      true⟩ ∧ (10 * 5 : Int) - (s.speed.odometer - 0).toNat ≤ 0) ∧
    (∃ s : State, Settled s ∧ (∀ n, s.auth.record ≠ .stabled n) ∧ s.junction.overflow = some ⟨9, none, 100, 5, 5, 0,
      false⟩ ∧ (10 * 5 : Int) - (s.speed.odometer - 0).toNat ≤ 0 ∧ s.emerg.recorded = 0) ∧
    (∃ s : State, Settled s ∧ (∀ n, s.auth.record ≠ .stabled n) ∧ TableSound s ∧
      s.record 7 = some ({ record 7 (some .left) .onPoint with entry := some 0 }) ∧
      10 * 5 + s.vl.length ≤ (s.speed.odometer - 0).toNat ∧ s.junction.overflow = none) ∧
    (∃ s : State, Settled s ∧ (∀ n, s.auth.record ≠ .stabled n) ∧ TableSound s ∧
      s.record 7 = some ({ record 7 (some .left) .onPoint with entry := some 0 }) ∧
      10 * 5 + s.vl.length ≤ (s.speed.odometer - 0).toNat ∧ s.junction.overflow = some ⟨9, none, 100, 5, 5, 0, false⟩) ∧
    (∃ s : State, Settled s ∧ (∀ n, s.auth.record ≠ .stabled n) ∧ s.stop.own.phase = .departing ∧
      s.pins.doorClosed = true ∧ s.stop.own.closeOdo = some 0 ∧ 20 ≤ (s.speed.odometer - 0).toNat ∧
      s.wayside.held = none ∧ s.stop.own.earlyPress = false) ∧
    (∃ s : State, Settled s ∧ (∀ n, s.auth.record ≠ .stabled n) ∧ s.stop.own.phase = .departing ∧
      s.pins.doorClosed = true ∧ s.stop.own.closeOdo = some 0 ∧ 20 ≤ (s.speed.odometer - 0).toNat ∧
      s.wayside.held = none ∧ s.stop.own.earlyPress = true ∧ s.stop.own.earlyAssist = false ∧
      s.stop.own.earlyDoors.getLsbD 2 = true ∧ (∀ k < 2, s.stop.own.earlyDoors.getLsbD k = false)) ∧
    (∃ s : State, Settled s ∧ (∀ n, s.auth.record ≠ .stabled n) ∧ s.stop.own.phase = .departing ∧
      s.pins.doorClosed = true ∧ s.stop.own.closeOdo = some 0 ∧ 20 ≤ (s.speed.odometer - 0).toNat ∧
      s.wayside.held = some ⟨7, 3⟩ ∧ s.stop.own.earlyPress = false ∧ s.wayside.sending.isSome = true ∧
      s.wayside.sp.length < 2) ∧
    (∃ s : State, Settled s ∧ TableSound s ∧ s.auth.record = .stabled 0 ∧
      s.record 7 = some ({ record 7 (some .left) .onPoint with entry := some 0 }) ∧
      10 * 5 + s.vl.length ≤ (s.speed.odometer - 0).toNat ∧ s.junction.overflow = some ⟨9, none, 100, 5, 5, 0, false⟩) ∧
    (∃ s : State, Settled s ∧ (∀ n, s.auth.record ≠ .stabled n) ∧ TableSound s ∧
      s.record 7 = some ({ record 7 (some .left) .onPoint with entry := some 0 }) ∧
      10 * 5 + s.vl.length ≤ (s.speed.odometer - 0).toNat ∧ s.junction.overflow = some ⟨9, some .left, 100, 5, 5, 0,
      true⟩ ∧ s.wayside.sending.isSome = true) :=
  ⟨⟨settle (speed (fun x => { x with odometer := 50 }) <| table [record 7 (some .left) .locked] <| base),
  settled_of (by decide +kernel), awake_of (by decide +kernel), table_of (by decide +kernel), by decide +kernel⟩,
   ⟨settle (speed (fun x => { x with odometer := 50 }) <| table [{ record 7 (some .left) .set with permit := true }] <| base),
     settled_of (by decide +kernel), awake_of (by decide +kernel), table_of (by decide +kernel), by decide +kernel⟩,
   ⟨settle (speed (fun x => { x with odometer := 50 }) <| table [record 7 (some .left) .set] <| base),
     settled_of (by decide +kernel), awake_of (by decide +kernel), table_of (by decide +kernel), by decide +kernel⟩,
   ⟨settle (speed (fun x => { x with odometer := 50 }) <| junc (fun x => { x with overflow := some ⟨9, none, 100, 5, 5, 0, true⟩, tableFull := true }) <| base),
     settled_of (by decide +kernel), awake_of (by decide +kernel), by decide +kernel⟩,
   ⟨settle (speed (fun x => { x with odometer := 50 }) <| junc (fun x => { x with overflow := some ⟨9, none, 100, 5, 5, 0, false⟩, tableFull := true }) <| base),
     settled_of (by decide +kernel), awake_of (by decide +kernel), by decide +kernel⟩,
   ⟨settle (speed (fun x => { x with odometer := 500 }) <| table [{ record 7 (some .left) .onPoint with entry := some 0 }] <| base),
     settled_of (by decide +kernel), awake_of (by decide +kernel), table_of (by decide +kernel), by decide +kernel⟩,
   ⟨settle (speed (fun x => { x with odometer := 500 }) <| junc (fun x => { x with overflow := some ⟨9, none, 100, 5, 5, 0, false⟩, tableFull := true }) <| table [{ record 7 (some .left) .onPoint with entry := some 0 }] <| base),
     settled_of (by decide +kernel), awake_of (by decide +kernel), table_of (by decide +kernel), by decide +kernel⟩,
   ⟨settle (speed (fun x => { x with odometer := 20 }) <| doors { phase .departing with closeOdo := some 0 } <| base),
     settled_of (by decide +kernel), awake_of (by decide +kernel), by decide +kernel⟩,
   ⟨settle (speed (fun x => { x with odometer := 20 }) <| doors { phase .departing with closeOdo := some 0, earlyPress := true, earlyDoors := 0x000C } <| base),
     settled_of (by decide +kernel), awake_of (by decide +kernel), by decide +kernel⟩,
   ⟨settle (speed (fun x => { x with odometer := 20 }) <| busy <| way (fun x => { x with held := some ⟨7, 3⟩ }) <| doors { phase .departing with closeOdo := some 0 } <| base),
     settled_of (by decide +kernel), awake_of (by decide +kernel), by decide +kernel⟩,
   ⟨settle (speed (fun x => { x with odometer := 500 }) <| junc (fun x => { x with overflow := some ⟨9, none, 100, 5, 5, 0, false⟩, tableFull := true }) <| auth (.stabled 0) <| table [{ record 7 (some .left) .onPoint with entry := some 0 }] <| base),
     settled_of (by decide +kernel), table_of (by decide +kernel), by decide +kernel⟩,
   ⟨settle (speed (fun x => { x with odometer := 500 }) <| junc (fun x => { x with overflow := some ⟨9, some .left, 100, 5, 5, 0, true⟩, tableFull := true }) <| busy <| table [{ record 7 (some .left) .onPoint with entry := some 0 }] <| base),
     settled_of (by decide +kernel), awake_of (by decide +kernel), table_of (by decide +kernel), by decide +kernel⟩⟩

theorem witness_MarkersActOrAreIgnored :
    (∃ s : State, Settled s ∧ (∃ n, s.auth.record = .stabled n)) ∧
    (∃ s : State, Settled s ∧ (∀ n, s.auth.record ≠ .stabled n) ∧ ¬ (1 ≤ 0 ∧ 0 ≤ 4095)) ∧
    (∃ s : State, Settled s ∧ (∀ n, s.auth.record ≠ .stabled n) ∧ ¬ (1 ≤ 4096 ∧ 4096 ≤ 4095)) ∧
    (∃ s : State, Settled s ∧ (∀ n, s.auth.record ≠ .stabled n) ∧ (¬ ((∃ e, s.auth.record = .active e) ∨ (∃ e n,
      s.auth.record = .parked e n) ∨ ∃ x, s.auth.record = .claiming x)) ∧ 1 ≤ 1 ∧ 1 ≤ 4095) ∧
    (∃ s : State, Settled s ∧ ((∃ e, s.auth.record = .active e) ∨ (∃ e n, s.auth.record = .parked e n) ∨ ∃ x,
      s.auth.record = .claiming x) ∧ (∀ c, s.junction.overflow = some c → c.junction ≠ 4095) ∧ 1 ≤ 4095 ∧
      4095 ≤ 4095 ∧ s.record 4095 = none ∧ s.junction.records.length < 4 ∧ s.wayside.sending.isSome = true ∧
      s.junction.plan = [⟨4095, .left, 50, 5, 5⟩]) ∧
    (∃ s : State, Settled s ∧ ((∃ e, s.auth.record = .active e) ∨ (∃ e n, s.auth.record = .parked e n) ∨ ∃ x,
      s.auth.record = .claiming x) ∧ (∀ c, s.junction.overflow = some c → c.junction ≠ 4095) ∧ s.record 4095 = none ∧
      s.junction.records.length < 4 ∧ s.wayside.sending.isSome = true ∧ (∀ entry ∈ s.junction.plan.take 3,
      entry.junction ≠ 4095) ∧ s.junction.pendingLeg = none) ∧
    (∃ s : State, Settled s ∧ ((∃ e, s.auth.record = .active e) ∨ (∃ e n, s.auth.record = .parked e n) ∨ ∃ x,
      s.auth.record = .claiming x) ∧ s.record 7 = some (record 7 (some .left) .locked)) ∧
    (∃ s : State, Settled s ∧ ((∃ e, s.auth.record = .active e) ∨ (∃ e n, s.auth.record = .parked e n) ∨ ∃ x,
      s.auth.record = .claiming x) ∧ s.record 7 = some (record 7 (some .left) .onPoint)) ∧
    (∃ s : State, Settled s ∧ ((∃ e, s.auth.record = .active e) ∨ (∃ e n, s.auth.record = .parked e n) ∨ ∃ x,
      s.auth.record = .claiming x) ∧ TableSound s ∧
      s.record 7 = some { record 7 (some .left) .set with permit := true }) ∧
    (∃ s : State, Settled s ∧ ((∃ e, s.auth.record = .active e) ∨ (∃ e n, s.auth.record = .parked e n) ∨ ∃ x,
      s.auth.record = .claiming x) ∧ s.stop.own.phase = .requested ∧ s.wayside.held = some ⟨1, 0⟩) ∧
    (∃ s : State, Settled s ∧ ((∃ e, s.auth.record = .active e) ∨ (∃ e n, s.auth.record = .parked e n) ∨ ∃ x,
      s.auth.record = .claiming x) ∧ (¬ (s.stop.own.phase = .requested ∨ s.stop.own.phase = .atStop)) ∧
      s.wayside.sending.isSome = true ∧ s.wayside.sp.length < 2) ∧
    (∃ s : State, Settled s ∧ ((∃ e, s.auth.record = .active e) ∨ (∃ e n, s.auth.record = .parked e n) ∨ ∃ x,
      s.auth.record = .claiming x) ∧ 2 ≤ s.wayside.sp.length) ∧
    (∃ s : State, Settled s ∧ ((∃ e, s.auth.record = .active e) ∨ (∃ e n, s.auth.record = .parked e n) ∨ ∃ x,
      s.auth.record = .claiming x) ∧ (∀ c, s.junction.overflow = some c → c.junction ≠ 4095) ∧ s.record 4095 = none ∧
      s.junction.records.length < 4 ∧ s.wayside.sending.isSome = true ∧ s.junction.plan = [⟨7, .left, 50, 5, 5⟩, ⟨8,
      .right, 50, 5, 5⟩, ⟨4095, .left, 50, 5, 5⟩] ∧ (∀ e ∈ [(⟨7, .left, 50, 5, 5⟩ : PlanEntry), ⟨8, .right, 50, 5,
      5⟩], e.junction ≠ 4095)) ∧
    (∃ s : State, Settled s ∧ ((∃ e, s.auth.record = .active e) ∨ (∃ e n, s.auth.record = .parked e n) ∨ ∃ x,
      s.auth.record = .claiming x) ∧ (∀ c, s.junction.overflow = some c → c.junction ≠ 4095) ∧ 1 ≤ 4095 ∧
      4095 ≤ 4095 ∧ s.record 4095 = none ∧ 4 ≤ s.junction.records.length ∧ s.junction.plan = [⟨7, .left, 50, 5, 5⟩,
      ⟨8, .right, 50, 5, 5⟩, ⟨4095, .left, 50, 5, 5⟩] ∧ s.junction.overflow = none) ∧
    (∃ s : State, Settled s ∧ ((∃ e, s.auth.record = .active e) ∨ (∃ e n, s.auth.record = .parked e n) ∨ ∃ x,
      s.auth.record = .claiming x) ∧ (∀ c, s.junction.overflow = some c → c.junction ≠ 4095) ∧ 1 ≤ 4095 ∧
      4095 ≤ 4095 ∧ s.record 4095 = none ∧ 4 ≤ s.junction.records.length ∧ (∀ entry ∈ s.junction.plan.take 3,
      entry.junction ≠ 4095) ∧ s.junction.overflow = none) ∧
    (∃ s : State, Settled s ∧ ((∃ e, s.auth.record = .active e) ∨ (∃ e n, s.auth.record = .parked e n) ∨ ∃ x,
      s.auth.record = .claiming x) ∧ 1 ≤ 4095 ∧ 4095 ≤ 4095 ∧ s.record 4095 = none ∧ 4 ≤ s.junction.records.length ∧
      s.junction.plan = [⟨7, .left, 50, 5, 5⟩, ⟨8, .right, 50, 5, 5⟩, ⟨4095, .left, 50, 5, 5⟩] ∧
      s.junction.overflow = some ⟨9, none, 100, 5, 5, 0, false⟩) ∧
    (∃ s : State, Settled s ∧ ((∃ e, s.auth.record = .active e) ∨ (∃ e n, s.auth.record = .parked e n) ∨ ∃ x,
      s.auth.record = .claiming x) ∧ s.record 4095 = none ∧ s.junction.overflow = some ⟨4095, none, 100, 5, 5, 0,
      true⟩) ∧
    (∃ s : State, Settled s ∧ ((∃ e, s.auth.record = .active e) ∨ (∃ e n, s.auth.record = .parked e n) ∨ ∃ x,
      s.auth.record = .claiming x) ∧ s.record 4095 = none ∧ s.junction.overflow = some ⟨4095, none, 100, 5, 5, 0,
      false⟩ ∧ s.emerg.recorded = 0) ∧
    (∃ s : State, Settled s ∧ ((∃ e, s.auth.record = .active e) ∨ (∃ e n, s.auth.record = .parked e n) ∨ ∃ x,
      s.auth.record = .claiming x) ∧ TableSound s ∧ s.record 7 = some (record 7 (some .left) .set) ∧
      s.wayside.sending.isSome = true) ∧
    (∃ s : State, Settled s ∧ ((∃ e, s.auth.record = .active e) ∨ (∃ e n, s.auth.record = .parked e n) ∨ ∃ x,
      s.auth.record = .claiming x) ∧ TableSound s ∧ s.record 7 = some (record 7 (some .left) .noReport) ∧
      s.wayside.sending.isSome = true) ∧
    (∃ s : State, Settled s ∧ ((∃ e, s.auth.record = .active e) ∨ (∃ e n, s.auth.record = .parked e n) ∨ ∃ x,
      s.auth.record = .claiming x) ∧ TableSound s ∧ s.record 7 = some (record 7 (some .left) .locked)) ∧
    (∃ s : State, Settled s ∧ ((∃ e, s.auth.record = .active e) ∨ (∃ e n, s.auth.record = .parked e n) ∨ ∃ x,
      s.auth.record = .claiming x) ∧ TableSound s ∧ s.record 7 = some (record 7 (some .left) .mismatch) ∧
      s.emerg.recorded = 0) ∧
    (∃ s : State, Settled s ∧ ((∃ e, s.auth.record = .active e) ∨ (∃ e n, s.auth.record = .parked e n) ∨ ∃ x,
      s.auth.record = .claiming x) ∧ (∀ c, s.junction.overflow = some c → c.junction ≠ 4095) ∧ s.record 4095 = none ∧
      s.junction.records.length < 4 ∧ s.wayside.sending.isSome = true ∧ (∀ entry ∈ s.junction.plan.take 3,
      entry.junction ≠ 4095) ∧ s.junction.pendingLeg = some .right) ∧
    (∃ s : State, Settled s ∧ ((∃ e, s.auth.record = .active e) ∨ (∃ e n, s.auth.record = .parked e n) ∨ ∃ x,
      s.auth.record = .claiming x) ∧ (∀ c, s.junction.overflow = some c → c.junction ≠ 4095) ∧ s.record 4095 = none ∧
      s.junction.records.length < 4 ∧ (∀ entry ∈ s.junction.plan.take 3, entry.junction ≠ 4095) ∧
      s.junction.pendingLeg = some .right ∧ s.wayside.sending = none ∧ s.wayside.jr = [] ∧ s.wayside.jq = [] ∧
      s.wayside.sp = [] ∧ s.wayside.vx = []) ∧
    (∃ s : State, Settled s ∧ ((∃ e, s.auth.record = .active e) ∨ (∃ e n, s.auth.record = .parked e n) ∨ ∃ x,
      s.auth.record = .claiming x) ∧ (∀ c, s.junction.overflow = some c → c.junction ≠ 4095) ∧ s.record 4095 = none ∧
      s.junction.records.length < 4 ∧ s.junction.plan = [⟨7, .left, 50, 5, 5⟩, ⟨8, .right, 50, 5, 5⟩, ⟨4095, .left,
      50, 5, 5⟩] ∧ s.wayside.sending = none ∧ s.wayside.jr = [] ∧ s.wayside.jq = [] ∧ s.wayside.sp = [] ∧
      s.wayside.vx = []) ∧
    (∃ s : State, Settled s ∧ ((∃ e, s.auth.record = .active e) ∨ (∃ e n, s.auth.record = .parked e n) ∨ ∃ x,
      s.auth.record = .claiming x) ∧ TableSound s ∧ s.record 7 = some (record 7 (some .left) .set) ∧
      s.wayside.sending = none ∧ s.wayside.jr = [] ∧ s.wayside.jq = [] ∧ s.wayside.sp = [] ∧ s.wayside.vx = []) ∧
    (∃ s : State, Settled s ∧ ((∃ e, s.auth.record = .active e) ∨ (∃ e n, s.auth.record = .parked e n) ∨ ∃ x,
      s.auth.record = .claiming x) ∧ TableSound s ∧ s.record 7 = some (record 7 (some .left) .noReport) ∧
      s.wayside.sending = none ∧ s.wayside.jr = [] ∧ s.wayside.jq = [] ∧ s.wayside.sp = [] ∧ s.wayside.vx = []) ∧
    (∃ s : State, Settled s ∧ ((∃ e, s.auth.record = .active e) ∨ (∃ e n, s.auth.record = .parked e n) ∨ ∃ x,
      s.auth.record = .claiming x) ∧ (¬ (s.stop.own.phase = .requested ∨ s.stop.own.phase = .atStop)) ∧
      s.wayside.sending = none ∧ s.wayside.jr = [] ∧ s.wayside.jq = [] ∧ s.wayside.sp = [] ∧ s.wayside.vx = []) ∧
    (∃ s : State, Settled s ∧ ((∃ e, s.auth.record = .active e) ∨ (∃ e n, s.auth.record = .parked e n) ∨ ∃ x,
      s.auth.record = .claiming x) ∧ (¬ (s.stop.own.phase = .requested ∨ s.stop.own.phase = .atStop)) ∧
      s.wayside.sending = none ∧ s.wayside.jr = [] ∧ s.wayside.jq = [] ∧ s.wayside.sp = [] ∧ s.wayside.vx = []) :=
  ⟨⟨settle (auth (.stabled 0) <| base), settled_of (by decide +kernel), stabled_of 0 (by decide +kernel)⟩,
   ⟨settle base, settled_of (by decide +kernel), awake_of (by decide +kernel), by decide +kernel⟩,
   ⟨settle base, settled_of (by decide +kernel), awake_of (by decide +kernel), by decide +kernel⟩,
   ⟨settle base, settled_of (by decide +kernel), awake_of (by decide +kernel), notActing_of (by decide +kernel),
     by decide +kernel⟩,
   ⟨settle (auth (.active .a) <| busy <| junc (fun x => { x with plan := [⟨4095, .left, 50, 5, 5⟩] }) <| base),
     settled_of (by decide +kernel), Or.inl ⟨.a, by decide +kernel⟩, noOverflow_of (by decide +kernel),
     by decide +kernel⟩,
   ⟨settle (auth (.active .a) <| busy <| base), settled_of (by decide +kernel), Or.inl ⟨.a, by decide +kernel⟩,
     noOverflow_of (by decide +kernel), by decide +kernel⟩,
   ⟨settle (auth (.active .a) <| table [record 7 (some .left) .locked] <| base), settled_of (by decide +kernel),
     Or.inl ⟨.a, by decide +kernel⟩, by decide +kernel⟩,
   ⟨settle (auth (.active .a) <| table [record 7 (some .left) .onPoint] <| base), settled_of (by decide +kernel),
     Or.inl ⟨.a, by decide +kernel⟩, by decide +kernel⟩,
   ⟨settle (auth (.active .a) <| table [{ record 7 (some .left) .set with permit := true }] <| base),
     settled_of (by decide +kernel), Or.inl ⟨.a, by decide +kernel⟩, table_of (by decide +kernel), by decide +kernel⟩,
   ⟨settle (auth (.active .a) <| doors (phase .requested) <| way (fun x => { x with held := some ⟨1, 0⟩ }) <| base),
     settled_of (by decide +kernel), Or.inl ⟨.a, by decide +kernel⟩, by decide +kernel⟩,
   ⟨settle (auth (.active .a) <| busy <| way (fun x => { x with sp := [⟨1, 0⟩] }) <| base),
     settled_of (by decide +kernel), Or.inl ⟨.a, by decide +kernel⟩, by decide +kernel⟩,
   ⟨settle (auth (.active .a) <| way (fun x => { x with sp := [⟨1, 0⟩, ⟨2, 0⟩] }) <| base),
     settled_of (by decide +kernel), Or.inl ⟨.a, by decide +kernel⟩, by decide +kernel⟩,
   ⟨settle (auth (.active .a) <| busy <| junc (fun x => { x with plan := [⟨7, .left, 50, 5, 5⟩, ⟨8, .right, 50, 5, 5⟩, ⟨4095, .left, 50, 5, 5⟩] }) <| base),
     settled_of (by decide +kernel), Or.inl ⟨.a, by decide +kernel⟩, noOverflow_of (by decide +kernel),
     by decide +kernel⟩,
   ⟨settle (auth (.active .a) <| table [record 1 none .unplanned, record 2 none .unplanned, record 3 none .unplanned,
     record 4 none .unplanned] <| junc (fun x => { x with plan := [⟨7, .left, 50, 5, 5⟩, ⟨8, .right, 50, 5, 5⟩, ⟨4095, .left, 50, 5, 5⟩] }) <| base),
     settled_of (by decide +kernel), Or.inl ⟨.a, by decide +kernel⟩, noOverflow_of (by decide +kernel),
     by decide +kernel⟩,
   ⟨settle (auth (.active .a) <| table [record 1 none .unplanned, record 2 none .unplanned, record 3 none .unplanned,
     record 4 none .unplanned] <| base), settled_of (by decide +kernel), Or.inl ⟨.a, by decide +kernel⟩,
     noOverflow_of (by decide +kernel), by decide +kernel⟩,
   ⟨settle (auth (.active .a) <| table [record 1 none .unplanned, record 2 none .unplanned, record 3 none .unplanned,
     record 4 none .unplanned] <| junc (fun x => { x with plan := [⟨7, .left, 50, 5, 5⟩, ⟨8, .right, 50, 5, 5⟩, ⟨4095, .left, 50, 5, 5⟩] }) <| junc (fun x => { x with overflow := some ⟨9, none, 100, 5, 5, 0, false⟩ }) <| base),
     settled_of (by decide +kernel), Or.inl ⟨.a, by decide +kernel⟩, by decide +kernel⟩,
   ⟨settle (auth (.active .a) <| junc (fun x => { x with overflow := some ⟨4095, none, 100, 5, 5, 0, true⟩ }) <| base),
     settled_of (by decide +kernel), Or.inl ⟨.a, by decide +kernel⟩, by decide +kernel⟩,
   ⟨settle (auth (.active .a) <| junc (fun x => { x with overflow := some ⟨4095, none, 100, 5, 5, 0, false⟩ }) <| base),
     settled_of (by decide +kernel), Or.inl ⟨.a, by decide +kernel⟩, by decide +kernel⟩,
   ⟨settle (auth (.active .a) <| busy <| table [record 7 (some .left) .set] <| base), settled_of (by decide +kernel),
     Or.inl ⟨.a, by decide +kernel⟩, table_of (by decide +kernel), by decide +kernel⟩,
   ⟨settle (auth (.active .a) <| busy <| table [record 7 (some .left) .noReport] <| base),
     settled_of (by decide +kernel), Or.inl ⟨.a, by decide +kernel⟩, table_of (by decide +kernel), by decide +kernel⟩,
   ⟨settle (auth (.active .a) <|  table [record 7 (some .left) .locked] <| base), settled_of (by decide +kernel),
     Or.inl ⟨.a, by decide +kernel⟩, table_of (by decide +kernel), by decide +kernel⟩,
   ⟨settle (auth (.active .a) <|  table [record 7 (some .left) .mismatch] <| base), settled_of (by decide +kernel),
     Or.inl ⟨.a, by decide +kernel⟩, table_of (by decide +kernel), by decide +kernel⟩,
   ⟨settle (auth (.active .a) <| busy <| junc (fun x => { x with pendingLeg := some .right, pendingPermit := true }) <| base),
     settled_of (by decide +kernel), Or.inl ⟨.a, by decide +kernel⟩, noOverflow_of (by decide +kernel),
     by decide +kernel⟩,
   ⟨settle (auth (.active .a) <| junc (fun x => { x with pendingLeg := some .right, pendingPermit := true }) <| base),
     settled_of (by decide +kernel), Or.inl ⟨.a, by decide +kernel⟩, noOverflow_of (by decide +kernel),
     by decide +kernel⟩,
   ⟨settle (auth (.active .a) <| way (fun x => { x with levels := ⟨true, false, true⟩ }) <| junc (fun x => { x with plan := [⟨7, .left, 50, 5, 5⟩, ⟨8, .right, 50, 5, 5⟩, ⟨4095, .left, 50, 5, 5⟩] }) <| base),
     settled_of (by decide +kernel), Or.inl ⟨.a, by decide +kernel⟩, noOverflow_of (by decide +kernel),
     by decide +kernel⟩,
   ⟨settle (auth (.active .a) <|  table [record 7 (some .left) .set] <| base), settled_of (by decide +kernel),
     Or.inl ⟨.a, by decide +kernel⟩, table_of (by decide +kernel), by decide +kernel⟩,
   ⟨settle (auth (.active .a) <| way (fun x => { x with levels := ⟨true, false, true⟩ }) <| table [record 7 (some .left) .noReport] <| base),
     settled_of (by decide +kernel), Or.inl ⟨.a, by decide +kernel⟩, table_of (by decide +kernel), by decide +kernel⟩,
   ⟨settle (auth (.active .a) <| way (fun x => { x with levels := ⟨true, false, true⟩ }) <| base),
     settled_of (by decide +kernel), Or.inl ⟨.a, by decide +kernel⟩, by decide +kernel⟩,
   ⟨settle (auth (.active .a) <| base), settled_of (by decide +kernel), Or.inl ⟨.a, by decide +kernel⟩,
     by decide +kernel⟩⟩

theorem witness_ReportsAcksAndTransmissionEnd :
    (∃ s : State, Settled s ∧ (∀ n, s.auth.record ≠ .stabled n) ∧ 1 ≤ 1 ∧ s.record 1 = none) ∧
    (∃ s : State, Settled s ∧ (∀ n, s.auth.record ≠ .stabled n) ∧ 4095 ≤ 4095 ∧ s.record 4095 = none) ∧
    (∃ s : State, Settled s ∧ (∀ n, s.auth.record ≠ .stabled n) ∧ TableSound s ∧
      s.record 7 = some (record 7 (some .left) .onPoint)) ∧
    (∃ s : State, Settled s ∧ (∀ n, s.auth.record ≠ .stabled n) ∧ TableSound s ∧
      s.record 7 = some (record 7 none .unplanned)) ∧
    (∃ s : State, Settled s ∧ (∀ n, s.auth.record ≠ .stabled n) ∧ TableSound s ∧
      s.record 7 = some (record 7 (some .left) .requested) ∧ s.vl.vehicleNumber = 1) ∧
    (∃ s : State, Settled s ∧ (∀ n, s.auth.record ≠ .stabled n) ∧ TableSound s ∧
      s.record 7 = some (record 7 (some .left) .mismatch) ∧ RecordState.mismatch ≠ .set) ∧
    (∃ s : State, Settled s ∧ (∀ n, s.auth.record ≠ .stabled n) ∧ TableSound s ∧
      s.record 7 = some (record 7 (some .left) .requested)) ∧
    (∃ s : State, Settled s ∧ (∀ n, s.auth.record ≠ .stabled n) ∧ TableSound s ∧ (∃ n, n ≠ s.vl.vehicleNumber ∧
      Lock.lockedFor 2 = .lockedFor n) ∧ s.record 7 = some (record 7 (some .left) .set)) ∧
    (∃ s : State, Settled s ∧ (∀ n, s.auth.record ≠ .stabled n) ∧ TableSound s ∧
      s.record 7 = some (record 7 (some .left) .locked) ∧ s.vl.vehicleNumber = 1) ∧
    (∃ s : State, Settled s ∧ (∀ n, s.auth.record ≠ .stabled n) ∧ TableSound s ∧
      s.record 7 = some (record 7 (some .left) .locked) ∧ Lock.free ≠ .lockedFor s.vl.vehicleNumber) ∧
    (∃ s : State, Settled s ∧ (∀ n, s.auth.record ≠ .stabled n) ∧ 1 = s.vl.vehicleNumber) ∧
    (∃ s : State, Settled s ∧ (∀ n, s.auth.record ≠ .stabled n) ∧ 2 ≠ s.vl.vehicleNumber) ∧
    (∃ s : State, Settled s ∧ s.wayside.sending.isSome = true ∧ s.wayside.jr = [] ∧ s.wayside.sp = [] ∧
      s.wayside.vx = [] ∧ s.wayside.jq = []) ∧
    (∃ s : State, Settled s ∧ s.wayside.sending.isSome = true ∧ s.wayside.jr = [] ∧ s.wayside.sp = [] ∧
      s.wayside.vx = [] ∧ s.wayside.jq = [7, 8] ∧ s.wayside.levels.jq = false) ∧
    (∃ s : State, Settled s ∧ s.wayside.sending.isSome = true ∧ searchGrant s.wayside = some .jq) ∧
    (∃ s : State, Settled s ∧ s.wayside.sending.isSome = true ∧ searchGrant s.wayside = some .jr) ∧
    (∃ s : State, Settled s ∧ s.wayside.sending.isSome = true ∧ searchGrant s.wayside = some .sp) ∧
    (∃ s : State, Settled s ∧ s.wayside.sending.isSome = true ∧ searchGrant s.wayside = some .vx) ∧
    (∃ s : State, Settled s ∧ s.wayside.sending.isSome = true ∧ searchGrant s.wayside = some .jr) ∧
    (∃ s : State, Settled s ∧ s.wayside.sending.isSome = true ∧ searchGrant s.wayside = none) :=
  ⟨⟨settle base, settled_of (by decide +kernel), awake_of (by decide +kernel), by decide +kernel⟩,
   ⟨settle base, settled_of (by decide +kernel), awake_of (by decide +kernel), by decide +kernel⟩,
   ⟨settle (table [record 7 (some .left) .onPoint] <| base), settled_of (by decide +kernel),
     awake_of (by decide +kernel), table_of (by decide +kernel), by decide +kernel⟩,
   ⟨settle (table [record 7 none .unplanned] <| base), settled_of (by decide +kernel), awake_of (by decide +kernel),
     table_of (by decide +kernel), by decide +kernel⟩,
   ⟨settle (table [record 7 (some .left) .requested] <| base), settled_of (by decide +kernel),
     awake_of (by decide +kernel), table_of (by decide +kernel), by decide +kernel⟩,
   ⟨settle (table [record 7 (some .left) .mismatch] <| base), settled_of (by decide +kernel),
     awake_of (by decide +kernel), table_of (by decide +kernel), by decide +kernel⟩,
   ⟨settle (table [record 7 (some .left) .requested] <| base), settled_of (by decide +kernel),
     awake_of (by decide +kernel), table_of (by decide +kernel), by decide +kernel⟩,
   ⟨settle (table [record 7 (some .left) .set] <| base), settled_of (by decide +kernel), awake_of (by decide +kernel),
     table_of (by decide +kernel), ⟨2, by decide +kernel, rfl⟩, by decide +kernel⟩,
   ⟨settle (table [record 7 (some .left) .locked] <| base), settled_of (by decide +kernel),
     awake_of (by decide +kernel), table_of (by decide +kernel), by decide +kernel⟩,
   ⟨settle (table [record 7 (some .left) .locked] <| base), settled_of (by decide +kernel),
     awake_of (by decide +kernel), table_of (by decide +kernel), by decide +kernel⟩,
   ⟨settle base, settled_of (by decide +kernel), awake_of (by decide +kernel), by decide +kernel⟩,
   ⟨settle base, settled_of (by decide +kernel), awake_of (by decide +kernel), by decide +kernel⟩,
   ⟨settle (busy <| base), settled_of (by decide +kernel), by decide +kernel⟩,
   ⟨settle (busy <| way (fun x => { x with jq := [7, 8] }) <| base), settled_of (by decide +kernel),
     by decide +kernel⟩,
   ⟨settle (busy <| way (fun x => { x with jr := [.request 7 .left, .cancel 8], jq := [9], sp := [⟨1, 0⟩], vx := [[1, 2, 3, 4, 5, 6]], ptr0 := .jq }) <| base),
     settled_of (by decide +kernel), by decide +kernel⟩,
   ⟨settle (busy <| way (fun x => { x with jr := [.request 7 .left], jq := [9], sp := [⟨1, 0⟩], vx := [[1, 2, 3, 4, 5, 6]], ptr0 := .jr }) <| base),
     settled_of (by decide +kernel), by decide +kernel⟩,
   ⟨settle (busy <| way (fun x => { x with jr := [.cancel 8], sp := [⟨1, 0⟩], vx := [[1, 2, 3, 4, 5, 6]], ptr0 := .sp, ptr1 := .sp, levels := ⟨true, false, true⟩ }) <| base),
     settled_of (by decide +kernel), by decide +kernel⟩,
   ⟨settle (busy <| way (fun x => { x with jr := [.cancel 8], sp := [⟨1, 0⟩], vx := [[1, 2, 3, 4, 5, 6]], ptr0 := .slot, ptr1 := .vx, levels := ⟨true, false, false⟩ }) <| base),
     settled_of (by decide +kernel), by decide +kernel⟩,
   ⟨settle (busy <| way (fun x => { x with jr := [.cancel 8], ptr0 := .slot, ptr1 := .vx, levels := ⟨true, false, false⟩ }) <| base),
     settled_of (by decide +kernel), by decide +kernel⟩,
   ⟨settle (busy <| way (fun x => { x with jr := [] }) <| base), settled_of (by decide +kernel), by decide +kernel⟩⟩

theorem witness_PressesReachTheStopState :
    (∃ s : State, Settled s ∧ s.stop.lines[31].cls ≠ .off ∧ s.stop.lines[31].state = .counting ∧
      2 ≤ s.stop.lines[31].activeRun ∧ s.auth.record = .stabled 1 ∧ 1 ≤ 1) ∧
    (∃ s : State, Settled s ∧ (∀ n, s.auth.record ≠ .stabled n) ∧ s.stop.lines[31].cls ≠ .off ∧
      s.stop.lines[31].state = .counting ∧ 2 ≤ s.stop.lines[31].activeRun ∧ s.auth.record ≠ .remote ∧
      s.stop.own.phase = .none ∧ s.stop.own.assist = false) ∧
    (∃ s : State, Settled s ∧ (∀ n, s.auth.record ≠ .stabled n) ∧ s.stop.lines[31].cls ≠ .off ∧
      s.stop.lines[31].state = .counting ∧ 2 ≤ s.stop.lines[31].activeRun ∧ s.auth.record ≠ .remote ∧
      s.stop.own.phase = .requested) ∧
    (∃ s : State, Settled s ∧ (∀ n, s.auth.record ≠ .stabled n) ∧ s.stop.lines[31].cls ≠ .off ∧
      s.stop.lines[31].state = .counting ∧ 2 ≤ s.stop.lines[31].activeRun ∧ s.auth.record ≠ .remote ∧
      s.stop.own.phase = .atStop ∧
      (if 4 ≤ s.stop.lines[31].door.val then s.stop.own.side2 else s.stop.own.side1) = true) ∧
    (∃ s : State, Settled s ∧ (∀ n, s.auth.record ≠ .stabled n) ∧ s.stop.lines[31].cls ≠ .off ∧
      s.stop.lines[31].state = .counting ∧ 2 ≤ s.stop.lines[31].activeRun ∧ s.auth.record ≠ .remote ∧
      s.stop.own.phase = .atStop ∧
      (if 4 ≤ s.stop.lines[31].door.val then s.stop.own.side2 else s.stop.own.side1) = false) ∧
    (∃ s : State, Settled s ∧ (∀ n, s.auth.record ≠ .stabled n) ∧ s.stop.lines[31].cls ≠ .off ∧
      s.stop.lines[31].state = .counting ∧ 2 ≤ s.stop.lines[31].activeRun ∧ s.auth.record ≠ .remote ∧
      s.stop.own.phase = .departing) ∧
    (∃ s : State, Settled s ∧ s.stop.lines[31].cls ≠ .off ∧ s.stop.lines[31].state = .counting ∧
      2 ≤ s.stop.lines[31].activeRun ∧ s.auth.record = .remote ∧ s.stop.mirror.map Mirror.phase ≠ some .atStop) ∧
    (∃ s : State, Settled s ∧
      Brings 5 (consistPage1 ({ frame with presses := some (#v[none, none, some .standard, none, none, none, none, none] : Vector (Option PressClass) 8) })) ({ frame with presses := some (#v[none, none, some .standard, none, none, none, none, none] : Vector (Option PressClass) 8) }) s ∧
      StaysCoupled ({ frame with presses := some (#v[none, none, some .standard, none, none, none, none, none] : Vector (Option PressClass) 8) }) s ∧
      s.auth.record = .active .a ∧ s.stop.own.phase = .none ∧
      ({ frame with presses := some (#v[none, none, some .standard, none, none, none, none, none] : Vector (Option PressClass) 8) }).presses ≠ none) ∧
    (∃ s : State, Settled s ∧
      Brings 5 (consistPage1 ({ frame with presses := some (#v[none, none, some .assist, none, none, none, none, none] : Vector (Option PressClass) 8) })) ({ frame with presses := some (#v[none, none, some .assist, none, none, none, none, none] : Vector (Option PressClass) 8) }) s ∧
      StaysCoupled ({ frame with presses := some (#v[none, none, some .assist, none, none, none, none, none] : Vector (Option PressClass) 8) }) s ∧
      s.auth.record = .active .a ∧ s.stop.own.phase = .requested ∧ s.stop.own.assist = false) ∧
    (∃ s : State, Settled s ∧
      Brings 5 (consistPage1 ({ frame with presses := some (#v[none, none, some .assist, none, none, none, none, none] : Vector (Option PressClass) 8) })) ({ frame with presses := some (#v[none, none, some .assist, none, none, none, none, none] : Vector (Option PressClass) 8) }) s ∧
      StaysCoupled ({ frame with presses := some (#v[none, none, some .assist, none, none, none, none, none] : Vector (Option PressClass) 8) }) s ∧
      s.auth.record = .active .a ∧ s.stop.own.phase = .atStop ∧ s.stop.own.assist = false) ∧
    (∃ s : State, Settled s ∧
      Brings 5 (consistPage1 ({ frame with presses := some (#v[none, none, some .standard, none, none, none, none, none] : Vector (Option PressClass) 8) })) ({ frame with presses := some (#v[none, none, some .standard, none, none, none, none, none] : Vector (Option PressClass) 8) }) s ∧
      StaysCoupled ({ frame with presses := some (#v[none, none, some .standard, none, none, none, none, none] : Vector (Option PressClass) 8) }) s ∧
      s.auth.record = .active .a ∧ s.stop.own.phase = .departing) ∧
    (∃ s : State, Settled s ∧
      Brings 5 (consistPage1 ({ frame with presses := some (#v[none, none, none, none, none, none, none, none] : Vector (Option PressClass) 8) })) ({ frame with presses := some (#v[none, none, none, none, none, none, none, none] : Vector (Option PressClass) 8) }) s ∧
      StaysCoupled ({ frame with presses := some (#v[none, none, none, none, none, none, none, none] : Vector (Option PressClass) 8) }) s ∧
      s.auth.record = .active .a ∧ s.stop.own.phase = .requested) ∧
    (∃ s : State, Settled s ∧
      Brings 5 (consistPage1 ({ frame with presses := some (#v[none, none, some .standard, none, none, none, none, none] : Vector (Option PressClass) 8) })) ({ frame with presses := some (#v[none, none, some .standard, none, none, none, none, none] : Vector (Option PressClass) 8) }) s ∧
      StaysCoupled ({ frame with presses := some (#v[none, none, some .standard, none, none, none, none, none] : Vector (Option PressClass) 8) }) s ∧
      s.auth.record = .dark ∧
      ({ frame with presses := some (#v[none, none, some .standard, none, none, none, none, none] : Vector (Option PressClass) 8) }).intent = none) ∧
    (∃ s : State, Settled s ∧
      Brings 5 (consistPage1 ({ frame with authority := ⟨.active, some .a, none⟩ })) ({ frame with authority := ⟨.active, some .a, none⟩ }) s ∧
      StaysCoupled ({ frame with authority := ⟨.active, some .a, none⟩ }) s ∧ s.auth.record = .remote ∧
      ({ frame with authority := ⟨.active, some .a, none⟩ }).authority.state = .active ∧
      ({ frame with authority := ⟨.active, some .a, none⟩ }).stopBlock = none) ∧
    (∃ s : State, Settled s ∧
      Brings 5 (consistPage1 ({ frame with authority := ⟨.active, some .a, none⟩, stopBlock := some (block .requested true false false) })) ({ frame with authority := ⟨.active, some .a, none⟩, stopBlock := some (block .requested true false false) }) s ∧
      StaysCoupled ({ frame with authority := ⟨.active, some .a, none⟩, stopBlock := some (block .requested true false false) }) s ∧
      s.auth.record = .remote ∧
      ({ frame with authority := ⟨.active, some .a, none⟩, stopBlock := some (block .requested true false false) }).authority.state = .active ∧
      s.stop.mirror = none ∧ s.vl.quiet = false ∧ s.sound.channels.chime.playing = none) ∧
    (∃ s : State, Settled s ∧
      Brings 5 (consistPage1 ({ frame with authority := ⟨.active, some .a, none⟩, stopBlock := some (block .requested true true true) })) ({ frame with authority := ⟨.active, some .a, none⟩, stopBlock := some (block .requested true true true) }) s ∧
      StaysCoupled ({ frame with authority := ⟨.active, some .a, none⟩, stopBlock := some (block .requested true true true) }) s ∧
      s.auth.record = .remote ∧
      ({ frame with authority := ⟨.active, some .a, none⟩, stopBlock := some (block .requested true true true) }).authority.state = .active ∧
      s.stop.mirror = none ∧ s.vl.quiet = false ∧ s.sound.channels.chime.playing = none) ∧
    (∃ s : State, Settled s ∧
      Brings 5 (consistPage1 ({ frame with authority := ⟨.active, some .a, none⟩, stopBlock := some (block .atStop false true false) })) ({ frame with authority := ⟨.active, some .a, none⟩, stopBlock := some (block .atStop false true false) }) s ∧
      StaysCoupled ({ frame with authority := ⟨.active, some .a, none⟩, stopBlock := some (block .atStop false true false) }) s ∧
      s.auth.record = .remote ∧
      ({ frame with authority := ⟨.active, some .a, none⟩, stopBlock := some (block .atStop false true false) }).authority.state = .active ∧
      s.stop.mirror = some ⟨.requested, 0, false, false, false⟩) ∧
    (∃ s : State, Settled s ∧
      Brings 5 (consistPage1 ({ frame with authority := ⟨.active, some .a, none⟩, stopBlock := some (block .departing false false false) })) ({ frame with authority := ⟨.active, some .a, none⟩, stopBlock := some (block .departing false false false) }) s ∧
      StaysCoupled ({ frame with authority := ⟨.active, some .a, none⟩, stopBlock := some (block .departing false false false) }) s ∧
      s.auth.record = .remote ∧
      ({ frame with authority := ⟨.active, some .a, none⟩, stopBlock := some (block .departing false false false) }).authority.state = .active ∧
      s.stop.mirror = some ⟨.atStop, 0, false, true, false⟩ ∧ s.vl.quiet = false ∧
      s.sound.channels.chime.playing = none) ∧
    (∃ s : State, Settled s ∧
      Brings 5 (consistPage1 ({ frame with authority := ⟨.active, some .a, none⟩, stopBlock := some (block .none false false false) })) ({ frame with authority := ⟨.active, some .a, none⟩, stopBlock := some (block .none false false false) }) s ∧
      StaysCoupled ({ frame with authority := ⟨.active, some .a, none⟩, stopBlock := some (block .none false false false) }) s ∧
      s.auth.record = .remote ∧
      ({ frame with authority := ⟨.active, some .a, none⟩, stopBlock := some (block .none false false false) }).authority.state = .active ∧
      s.stop.mirror = some ⟨.departing, 0, false, false, false⟩) ∧
    (∃ s : State, Settled s ∧ s.stop.lines[31].cls ≠ .off ∧ s.stop.lines[31].state = .counting ∧
      2 ≤ s.stop.lines[31].activeRun ∧ s.auth.record = .remote ∧ s.stop.mirror = some ⟨.atStop, 0, false, false,
      true⟩ ∧ 4 ≤ s.stop.lines[31].door.val) ∧
    (∃ s : State, Settled s ∧ s.stop.lines[31].cls ≠ .off ∧ s.stop.lines[31].state = .counting ∧
      2 ≤ s.stop.lines[31].activeRun ∧ s.auth.record = .remote ∧ s.stop.mirror = some ⟨.atStop, 0, false, true,
      false⟩ ∧ 4 ≤ s.stop.lines[31].door.val) :=
  ⟨⟨settle (stop (fun x => { x with lines := x.lines.set 31 ⟨.standard, 7, .counting, 2, 0⟩ }) <| auth (.stabled 1) <| base),
  settled_of (by decide +kernel), by decide +kernel⟩,
   ⟨settle (stop (fun x => { x with lines := x.lines.set 31 ⟨.assist, 7, .counting, 2, 0⟩ }) <| base),
     settled_of (by decide +kernel), awake_of (by decide +kernel), by decide +kernel⟩,
   ⟨settle (stop (fun x => { x with lines := x.lines.set 31 ⟨.standard, 7, .counting, 2, 0⟩ }) <| doors (phase .requested) <| base),
     settled_of (by decide +kernel), awake_of (by decide +kernel), by decide +kernel⟩,
   ⟨settle (stop (fun x => { x with lines := x.lines.set 31 ⟨.standard, 7, .counting, 2, 0⟩ }) <| doors { phase .atStop with side2 := true } <| base),
     settled_of (by decide +kernel), awake_of (by decide +kernel), by decide +kernel⟩,
   ⟨settle (stop (fun x => { x with lines := x.lines.set 31 ⟨.standard, 7, .counting, 2, 0⟩ }) <| doors { phase .atStop with side1 := true } <| base),
     settled_of (by decide +kernel), awake_of (by decide +kernel), by decide +kernel⟩,
   ⟨settle (stop (fun x => { x with lines := x.lines.set 31 ⟨.standard, 7, .counting, 2, 0⟩ }) <| doors { phase .departing with closeOdo := some 0 } <| base),
     settled_of (by decide +kernel), awake_of (by decide +kernel), by decide +kernel⟩,
   ⟨settle (stop (fun x => { x with lines := x.lines.set 31 ⟨.standard, 7, .counting, 2, 0⟩ }) <| auth .remote <| coupled .neutral <| base),
     settled_of (by decide +kernel), by decide +kernel⟩,
   ⟨settle (brings ({ frame with presses := some (#v[none, none, some .standard, none, none, none, none, none] : Vector (Option PressClass) 8) }) <| auth (.active .a) <|  coupled .lead <| base),
     settled_of (by decide +kernel), brings_of (by decide +kernel),
     stays_of (consist_of (by decide +kernel) (by decide +kernel) (by decide +kernel)) (by decide +kernel),
     by decide +kernel⟩,
   ⟨settle (brings ({ frame with presses := some (#v[none, none, some .assist, none, none, none, none, none] : Vector (Option PressClass) 8) }) <| auth (.active .a) <| doors (phase .requested) <| coupled .lead <| base),
     settled_of (by decide +kernel), brings_of (by decide +kernel),
     stays_of (consist_of (by decide +kernel) (by decide +kernel) (by decide +kernel)) (by decide +kernel),
     by decide +kernel⟩,
   ⟨settle (brings ({ frame with presses := some (#v[none, none, some .assist, none, none, none, none, none] : Vector (Option PressClass) 8) }) <| auth (.active .a) <| doors { phase .atStop with side1 := true } <| coupled .lead <| base),
     settled_of (by decide +kernel), brings_of (by decide +kernel),
     stays_of (consist_of (by decide +kernel) (by decide +kernel) (by decide +kernel)) (by decide +kernel),
     by decide +kernel⟩,
   ⟨settle (brings ({ frame with presses := some (#v[none, none, some .standard, none, none, none, none, none] : Vector (Option PressClass) 8) }) <| auth (.active .a) <| doors { phase .departing with closeOdo := some 0 } <| coupled .lead <| base),
     settled_of (by decide +kernel), brings_of (by decide +kernel),
     stays_of (consist_of (by decide +kernel) (by decide +kernel) (by decide +kernel)) (by decide +kernel),
     by decide +kernel⟩,
   ⟨settle (brings ({ frame with presses := some (#v[none, none, none, none, none, none, none, none] : Vector (Option PressClass) 8) }) <| auth (.active .a) <| doors (phase .requested) <| coupled .lead <| base),
     settled_of (by decide +kernel), brings_of (by decide +kernel),
     stays_of (consist_of (by decide +kernel) (by decide +kernel) (by decide +kernel)) (by decide +kernel),
     by decide +kernel⟩,
   ⟨settle (brings ({ frame with presses := some (#v[none, none, some .standard, none, none, none, none, none] : Vector (Option PressClass) 8) }) <|  coupled .neutral <| base),
     settled_of (by decide +kernel), brings_of (by decide +kernel),
     stays_of (consist_of (by decide +kernel) (by decide +kernel) (by decide +kernel)) (by decide +kernel),
     by decide +kernel⟩,
   ⟨settle (brings ({ frame with authority := ⟨.active, some .a, none⟩ }) <| auth .remote <|  coupled .neutral <| base),
     settled_of (by decide +kernel), brings_of (by decide +kernel),
     stays_of (consist_of (by decide +kernel) (by decide +kernel) (by decide +kernel)) (by decide +kernel),
     by decide +kernel⟩,
   ⟨settle (brings ({ frame with authority := ⟨.active, some .a, none⟩, stopBlock := some (block .requested true false false) }) <| auth .remote <|  coupled .neutral <| base),
     settled_of (by decide +kernel), brings_of (by decide +kernel),
     stays_of (consist_of (by decide +kernel) (by decide +kernel) (by decide +kernel)) (by decide +kernel),
     by decide +kernel⟩,
   ⟨settle (brings ({ frame with authority := ⟨.active, some .a, none⟩, stopBlock := some (block .requested true true true) }) <| auth .remote <|  coupled .neutral <| base),
     settled_of (by decide +kernel), brings_of (by decide +kernel),
     stays_of (consist_of (by decide +kernel) (by decide +kernel) (by decide +kernel)) (by decide +kernel),
     by decide +kernel⟩,
   ⟨settle (brings ({ frame with authority := ⟨.active, some .a, none⟩, stopBlock := some (block .atStop false true false) }) <| auth .remote <| stop (fun x => { x with mirror := some ⟨.requested, 0, false, false, false⟩ }) <| coupled .neutral <| base),
     settled_of (by decide +kernel), brings_of (by decide +kernel),
     stays_of (consist_of (by decide +kernel) (by decide +kernel) (by decide +kernel)) (by decide +kernel),
     by decide +kernel⟩,
   ⟨settle (brings ({ frame with authority := ⟨.active, some .a, none⟩, stopBlock := some (block .departing false false false) }) <| auth .remote <| stop (fun x => { x with mirror := some ⟨.atStop, 0, false, true, false⟩ }) <| coupled .neutral <| base),
     settled_of (by decide +kernel), brings_of (by decide +kernel),
     stays_of (consist_of (by decide +kernel) (by decide +kernel) (by decide +kernel)) (by decide +kernel),
     by decide +kernel⟩,
   ⟨settle (brings ({ frame with authority := ⟨.active, some .a, none⟩, stopBlock := some (block .none false false false) }) <| auth .remote <| stop (fun x => { x with mirror := some ⟨.departing, 0, false, false, false⟩ }) <| coupled .neutral <| base),
     settled_of (by decide +kernel), brings_of (by decide +kernel),
     stays_of (consist_of (by decide +kernel) (by decide +kernel) (by decide +kernel)) (by decide +kernel),
     by decide +kernel⟩,
   ⟨settle (stop (fun x => { x with lines := x.lines.set 31 ⟨.standard, 7, .counting, 2, 0⟩ }) <| stop (fun x => { x with mirror := some ⟨.atStop, 0, false, false, true⟩ }) <| auth .remote <| coupled .neutral <| base),
     settled_of (by decide +kernel), by decide +kernel⟩,
   ⟨settle (stop (fun x => { x with lines := x.lines.set 31 ⟨.standard, 7, .counting, 2, 0⟩ }) <| stop (fun x => { x with mirror := some ⟨.atStop, 0, false, true, false⟩ }) <| auth .remote <| coupled .neutral <| base),
     settled_of (by decide +kernel), by decide +kernel⟩⟩

theorem witness_LinesAreSampled :
    (∃ s : State, Settled s ∧ (∀ m : Fin 32, s.stop.lines[m].state = .idle ∨ s.stop.lines[m].state = .stuck)) ∧
    (∃ s : State, Settled s ∧ s.stop.lines[31].state = .held ∧ 999 ≤ s.stop.lines[31].activeRun) ∧
    (∃ s : State, Settled s ∧ s.stop.lines[31].state = .stuck ∧ 99 ≤ s.stop.lines[31].inactiveRun) :=
  ⟨⟨settle base, settled_of (by decide +kernel), by decide +kernel⟩,
   ⟨settle (stop (fun x => { x with lines := x.lines.set 31 ⟨.standard, 7, .held, 999, 0⟩ }) <| base),
     settled_of (by decide +kernel), by decide +kernel⟩,
   ⟨settle (stop (fun x => { x with lines := x.lines.set 31 ⟨.standard, 7, .stuck, 1000, 99⟩ }) <| base),
     settled_of (by decide +kernel), by decide +kernel⟩⟩

theorem witness_PartnerAndSoundTimers :
    (∃ s : State, Settled s ∧ s.consist.timer ≠ none ∧ s.consist.state = .joining ∧ s.consist.role = none) ∧
    (∃ s : State, Settled s ∧ (∃ e, s.auth.record = .active e) ∧ LadderSound s ∧ ConsistSound s ∧
      s.consist.timer ≠ none ∧ s.consist.state = .coupled ∧ s.speed.standstill = false ∧ s.consist.identity = some (2,
      1) ∧ s.emerg.recorded = 0) ∧
    (∃ s : State, Settled s ∧ ConsistSound s ∧ (∀ i, s.auth.record ≠ .claiming i) ∧ s.consist.timer ≠ none ∧
      s.speed.standstill = true ∧ s.consist.state = .coupled) ∧
    (∃ s : State, Settled s ∧ (s.sound.channels.get .bell).playing = some ⟨.manualBell, 0, 1, 0, 0, true⟩ ∧
      1 < s.sound.patterns[0].count) ∧
    (∃ s : State, Settled s ∧ (s.sound.channels.get .bell).playing = some ⟨.manualBell, 0, 2, 0, 0, true⟩ ∧
      s.sound.patterns[0].count ≤ 2 ∧ s.sound.patterns[0].rep = .held) ∧
    (∃ s : State, Settled s ∧ (s.sound.channels.get .bell).playing = some ⟨.emergency, 7, 2, 1, 0, true⟩ ∧
      s.sound.patterns[7].count ≤ 2 ∧ s.sound.patterns[7].rep = .times 3 ∧ 1 + 1 < 3) ∧
    (∃ s : State, Settled s ∧ (s.sound.channels.get .bell).playing = some ⟨.emergency, 7, 2, 2, 0, true⟩ ∧
      s.sound.patterns[7].count ≤ 2 ∧ s.sound.patterns[7].rep = .times 3 ∧ 3 ≤ 2 + 1 ∧
      (s.sound.channels.get .bell).waiting = []) ∧
    (∃ s : State, Settled s ∧ (s.sound.channels.get .bell).playing = some ⟨.test, 0, 2, 0, 0, false⟩ ∧
      s.sound.patterns[0].count ≤ 2 ∧ s.sound.patterns[0].rep = .held ∧
      (s.sound.channels.get .bell).waiting = [⟨.manualBell, 0, 1, 0, 1, true⟩]) ∧
    (∃ s : State, Settled s ∧ (soundOutputs s).horn ≠ .off) ∧
    (∃ s : State, Settled s ∧ s.sound.forcedOff ≠ none ∧ s.sound.channels.horn.playing = some ⟨.manualHorn, 1, 1, 0,
      0, true⟩) ∧
    (∃ s : State, Settled s ∧ s.sound.forcedOff ≠ none ∧ s.sound.channels.horn.playing = none) ∧
    (∃ s : State, Settled s ∧
      Brings 5 (consistPage1 ({ frame with ownSources := 1 })) ({ frame with ownSources := 1 }) s ∧
      StaysCoupled ({ frame with ownSources := 1 }) s ∧ s.auth.record = .dark ∧
      ({ frame with ownSources := 1 }).ownSources ≠ 0) ∧
    (∃ s : State, Settled s ∧ Brings 5 (consistPage1 (frame)) (frame) s ∧ StaysCoupled (frame) s ∧
      s.auth.record = .dark ∧ frame.ownSources = 0) ∧
    (∃ s : State, Settled s ∧
      Brings 5 (consistPage1 ({ frame with authority := ⟨.active, some .a, none⟩, ownSources := 1 })) ({ frame with authority := ⟨.active, some .a, none⟩, ownSources := 1 }) s ∧
      StaysCoupled ({ frame with authority := ⟨.active, some .a, none⟩, ownSources := 1 }) s ∧
      s.auth.record = .remote ∧
      ({ frame with authority := ⟨.active, some .a, none⟩, ownSources := 1 }).authority.state = .active ∧
      s.speed.standstill = true ∧
      ({ frame with authority := ⟨.active, some .a, none⟩, ownSources := 1 }).ownSources ≠ 0 ∧ s.emerg.recorded ≠ 0) ∧
    (∃ s : State, Settled s ∧
      Brings 5 (consistPage1 ({ frame with authority := ⟨.active, some .a, none⟩, holding := true })) ({ frame with authority := ⟨.active, some .a, none⟩, holding := true }) s ∧
      StaysCoupled ({ frame with authority := ⟨.active, some .a, none⟩, holding := true }) s ∧
      s.auth.record = .remote ∧
      ({ frame with authority := ⟨.active, some .a, none⟩, holding := true }).authority.state = .active ∧
      s.speed.standstill = true ∧
      ({ frame with authority := ⟨.active, some .a, none⟩, holding := true }).holding = true) ∧
    (∃ s : State, Settled s ∧
      Brings 5 (consistPage1 ({ frame with authority := ⟨.active, some .a, none⟩ })) ({ frame with authority := ⟨.active, some .a, none⟩ }) s ∧
      StaysCoupled ({ frame with authority := ⟨.active, some .a, none⟩ }) s ∧ s.auth.record = .remote ∧
      ({ frame with authority := ⟨.active, some .a, none⟩ }).authority.state = .active ∧ s.speed.standstill = true ∧
      s.emerg.recorded.getLsbD EmergencySource.partner.bit = true ∧
      ({ frame with authority := ⟨.active, some .a, none⟩ }).ownSources = 0 ∧
      ({ frame with authority := ⟨.active, some .a, none⟩ }).holding = false ∧
      s.emerg.recorded.getLsbD EmergencySource.loop.bit = true ∧
      conditionClear .b (answer (exec (.consistPage .b 5 (consistPage1 ({ frame with authority := ⟨.active, some .a, none⟩ }))) s)) .loop = false) ∧
    (∃ s : State, Settled s ∧
      Brings 5 (consistPage1 ({ frame with authority := ⟨.active, some .a, none⟩ })) ({ frame with authority := ⟨.active, some .a, none⟩ }) s ∧
      StaysCoupled ({ frame with authority := ⟨.active, some .a, none⟩ }) s ∧ s.auth.record = .remote ∧
      ({ frame with authority := ⟨.active, some .a, none⟩ }).authority.state = .active ∧ s.speed.standstill = true ∧
      s.emerg.recorded.getLsbD EmergencySource.partner.bit = true ∧
      ({ frame with authority := ⟨.active, some .a, none⟩ }).ownSources = 0 ∧
      ({ frame with authority := ⟨.active, some .a, none⟩ }).holding = false ∧
      conditionClear .b (answer (exec (.consistPage .b 5 (consistPage1 ({ frame with authority := ⟨.active, some .a, none⟩ }))) s)) .lever = true ∧
      (∀ src ∈ allSources,
      src ≠ .partner → s.emerg.recorded.getLsbD src.bit = true → conditionClear .b (answer (exec (.consistPage .b 5 (consistPage1 ({ frame with authority := ⟨.active, some .a, none⟩ }))) s)) src = true) ∧
      s.emerg.divisor ≤ 8) ∧
    (∃ s : State, Settled s ∧
      Brings 5 (consistPage1 ({ frame with authority := ⟨.active, some .a, none⟩, manualBell := true })) ({ frame with authority := ⟨.active, some .a, none⟩, manualBell := true }) s ∧
      StaysCoupled ({ frame with authority := ⟨.active, some .a, none⟩, manualBell := true }) s ∧
      s.auth.record = .remote ∧
      ({ frame with authority := ⟨.active, some .a, none⟩, manualBell := true }).authority.state = .active ∧
      s.sound.bellItem ≠ some true ∧ s.sound.channels.bell.playing = none ∧
      ({ frame with authority := ⟨.active, some .a, none⟩, manualBell := true }).manualBell = true) ∧
    (∃ s : State, Settled s ∧
      Brings 5 (consistPage1 ({ frame with authority := ⟨.active, some .a, none⟩ })) ({ frame with authority := ⟨.active, some .a, none⟩ }) s ∧
      StaysCoupled ({ frame with authority := ⟨.active, some .a, none⟩ }) s ∧ SoundsSound s ∧
      s.auth.record = .remote ∧ ({ frame with authority := ⟨.active, some .a, none⟩ }).authority.state = .active ∧
      s.sound.bellItem = some true ∧ ({ frame with authority := ⟨.active, some .a, none⟩ }).manualBell = false) ∧
    (∃ s : State, Settled s ∧
      Brings 5 (consistPage1 ({ frame with authority := ⟨.active, some .a, none⟩ })) ({ frame with authority := ⟨.active, some .a, none⟩ }) s ∧
      StaysCoupled ({ frame with authority := ⟨.active, some .a, none⟩ }) s ∧ s.auth.record = .remote ∧
      ({ frame with authority := ⟨.active, some .a, none⟩ }).authority.state = .active ∧
      s.sound.bellItem = some false ∧ s.emerg.recorded = 0) ∧
    (∃ s : State, Settled s ∧ Brings 5 (consistPage1 ({ frame with divisor := 6 })) ({ frame with divisor := 6 }) s ∧
      StaysCoupled ({ frame with divisor := 6 }) s ∧ LadderSound s ∧ s.auth.record = .active .a) :=
  ⟨⟨settle (consist ⟨.joining, none, some (2, 1), 1, some frame, some 0, some .b, none⟩ <| base),
  settled_of (by decide +kernel), by decide +kernel⟩,
   ⟨settle (auth (.active .a) <| fast 5 <| coupled .lead <| base), settled_of (by decide +kernel), ⟨.a,
     by decide +kernel⟩, ladder_of (by decide +kernel),
     consist_of (by decide +kernel) (by decide +kernel) (by decide +kernel), by decide +kernel⟩,
   ⟨settle (auth .remote <| coupled .neutral <| base), settled_of (by decide +kernel),
     consist_of (by decide +kernel) (by decide +kernel) (by decide +kernel), noClaiming_of (by decide +kernel),
     by decide +kernel⟩,
   ⟨settle (sound (fun x => { x with channels := { x.channels with bell := ⟨some ⟨.manualBell, 0, 1, 0, 0, true⟩, 0, []⟩ } }) <| base),
     settled_of (by decide +kernel), by decide +kernel⟩,
   ⟨settle (sound (fun x => { x with channels := { x.channels with bell := ⟨some ⟨.manualBell, 0, 2, 0, 0, true⟩, 0, []⟩ } }) <| base),
     settled_of (by decide +kernel), by decide +kernel⟩,
   ⟨settle (sound (fun x => { x with channels := { x.channels with bell := ⟨some ⟨.emergency, 7, 2, 1, 0, true⟩, 0, []⟩ } }) <| base),
     settled_of (by decide +kernel), by decide +kernel⟩,
   ⟨settle (sound (fun x => { x with channels := { x.channels with bell := ⟨some ⟨.emergency, 7, 2, 2, 0, true⟩, 0, []⟩ } }) <| base),
     settled_of (by decide +kernel), by decide +kernel⟩,
   ⟨settle (sound (fun x => { x with channels := { x.channels with bell := ⟨some ⟨.test, 0, 2, 0, 0, false⟩, 0, [⟨.manualBell, 0, 1, 0, 1, true⟩]⟩ } }) <| base),
     settled_of (by decide +kernel), by decide +kernel⟩,
   ⟨settle (sound (fun x => { x with channels := { x.channels with horn := ⟨some ⟨.manualHorn, 1, 1, 0, 0, true⟩, 9, []⟩ }, hornOn := 5000 }) <| base),
     settled_of (by decide +kernel), by decide +kernel⟩,
   ⟨settle (sound (fun x => { x with channels := { x.channels with horn := ⟨some ⟨.manualHorn, 1, 1, 0, 0, true⟩, 9, []⟩ }, forcedOff := some 0 }) <| base),
     settled_of (by decide +kernel), by decide +kernel⟩,
   ⟨settle (sound (fun x => { x with forcedOff := some 0 }) <| base), settled_of (by decide +kernel),
     by decide +kernel⟩,
   ⟨settle (brings ({ frame with ownSources := 1 }) <|  coupled .neutral <| base), settled_of (by decide +kernel),
     brings_of (by decide +kernel),
     stays_of (consist_of (by decide +kernel) (by decide +kernel) (by decide +kernel)) (by decide +kernel),
     by decide +kernel⟩,
   ⟨settle (brings (frame) <|  coupled .neutral <| base), settled_of (by decide +kernel),
     brings_of (by decide +kernel),
     stays_of (consist_of (by decide +kernel) (by decide +kernel) (by decide +kernel)) (by decide +kernel),
     by decide +kernel⟩,
   ⟨settle (brings ({ frame with authority := ⟨.active, some .a, none⟩, ownSources := 1 }) <| auth .remote <| emerg (fun x => { x with recorded := 0x0011, first := some .lever }) <|pins (fun x => { x with passengerClosed := false }) <| coupled .neutral <| base),
     settled_of (by decide +kernel), brings_of (by decide +kernel),
     stays_of (consist_of (by decide +kernel) (by decide +kernel) (by decide +kernel)) (by decide +kernel),
     by decide +kernel⟩,
   ⟨settle (brings ({ frame with authority := ⟨.active, some .a, none⟩, holding := true }) <| auth .remote <|  coupled .neutral <| base),
     settled_of (by decide +kernel), brings_of (by decide +kernel),
     stays_of (consist_of (by decide +kernel) (by decide +kernel) (by decide +kernel)) (by decide +kernel),
     by decide +kernel⟩,
   ⟨settle (brings ({ frame with authority := ⟨.active, some .a, none⟩ }) <| auth .remote <| emerg (fun x => { x with recorded := 0x0111, first := some .lever }) <|pins (fun x => { x with passengerClosed := false }) <| coupled .neutral <| base),
     settled_of (by decide +kernel), brings_of (by decide +kernel),
     stays_of (consist_of (by decide +kernel) (by decide +kernel) (by decide +kernel)) (by decide +kernel),
     by decide +kernel⟩,
   ⟨settle (brings ({ frame with authority := ⟨.active, some .a, none⟩ }) <| auth .remote <| emerg (fun x => { x with recorded := 0x0101, first := some .lever }) <| coupled .neutral <| base),
     settled_of (by decide +kernel), brings_of (by decide +kernel),
     stays_of (consist_of (by decide +kernel) (by decide +kernel) (by decide +kernel)) (by decide +kernel),
     by decide +kernel⟩,
   ⟨settle (brings ({ frame with authority := ⟨.active, some .a, none⟩, manualBell := true }) <| auth .remote <|  coupled .neutral <| base),
     settled_of (by decide +kernel), brings_of (by decide +kernel),
     stays_of (consist_of (by decide +kernel) (by decide +kernel) (by decide +kernel)) (by decide +kernel),
     by decide +kernel⟩,
   ⟨settle (brings ({ frame with authority := ⟨.active, some .a, none⟩ }) <| auth .remote <| sound (fun x => { x with bellItem := some true, channels := { x.channels with bell := ⟨some ⟨.mirror, 0, 1, 0, 0, true⟩, 9, []⟩ } }) <| coupled .neutral <| base),
     settled_of (by decide +kernel), brings_of (by decide +kernel),
     stays_of (consist_of (by decide +kernel) (by decide +kernel) (by decide +kernel)) (by decide +kernel),
     sounds_of (by decide +kernel), by decide +kernel⟩,
   ⟨settle (brings ({ frame with authority := ⟨.active, some .a, none⟩ }) <| auth .remote <| sound (fun x => { x with bellItem := some false }) <| coupled .neutral <| base),
     settled_of (by decide +kernel), brings_of (by decide +kernel),
     stays_of (consist_of (by decide +kernel) (by decide +kernel) (by decide +kernel)) (by decide +kernel),
     by decide +kernel⟩,
   ⟨settle (brings ({ frame with divisor := 6 }) <| auth (.active .a) <| emerg (fun x => { x with divisor := 4 }) <| coupled .lead <| base),
     settled_of (by decide +kernel), brings_of (by decide +kernel),
     stays_of (consist_of (by decide +kernel) (by decide +kernel) (by decide +kernel)) (by decide +kernel),
     ladder_of (by decide +kernel), by decide +kernel⟩⟩

theorem witness_LayoutsReadBack :
    ((List.replicate 12 (0 : Byte)).length ≤ 12) ∧
    (frame.vehicle < 65536 ∧ frame.rank < 256 ∧ frame.length < 65536 ∧ frame.divisor < 256 ∧ frame.ceiling < 65536 ∧
      -128 ≤ frame.rk ∧ frame.rk ≤ 127 ∧ frame.ownSources &&& 0xFC00 = 0) ∧
    ((∀ n, Lock.lockedFor 65535 = .lockedFor n → n < 65536) ∧ 1 ≤ 4095 ∧ 4095 ≤ 4095 ∧ 65535 < 65536) ∧
    ((∀ kind tag data, TxEntry.notice 0 ≠ .accepted kind tag data)) :=
  ⟨(by decide +kernel),
   (by decide +kernel),
   ⟨by intro n h; injection h; omega, by decide +kernel⟩,
   (by intro _ _ _ h; cases h)⟩

theorem witness_StepKeepsTheJunctionTable :
    (∃ s : State, TableSound s ∧ step s = .next (answer (step s)) ∧ s.junction.records ≠ [] ∧
      s.junction.overflow ≠ none) :=
  ⟨settle (busy <| way (fun x => { x with jr := [.request 7 .left, .cancel 8], jq := [7, 8], sp := [⟨1, 0⟩, ⟨1, 0⟩] }) <| table [record 7 (some .left) .set,
  record 8 none .unplanned] <| junc (fun x => { x with overflow := some ⟨9, none, 100, 5, 5, 0, false⟩ }) <| (fun s => s.withPending [.txDone]) <| base),
  table_of (by decide +kernel), next_of (by decide +kernel), by decide +kernel⟩

theorem witness_StepKeepsQueuesAndFifos :
    (∃ s : State, QueuesSound s ∧ FifosSound s ∧ step s = .next (answer (step s)) ∧ s.wayside.jr.length = 2) :=
  ⟨settle (busy <| way (fun x => { x with jr := [.request 7 .left, .cancel 8], jq := [7, 8], sp := [⟨1, 0⟩, ⟨1, 0⟩] }) <| table [record 7 (some .left) .set,
  record 8 none .unplanned] <| junc (fun x => { x with overflow := some ⟨9, none, 100, 5, 5, 0, false⟩ }) <| (fun s => s.withPending [.txDone]) <| base),
  queues_of (by decide +kernel), fifos_of (by decide +kernel), next_of (by decide +kernel), by decide +kernel⟩

theorem witness_StepKeepsLatchLadderAndDemand :
    (∃ s : State, LatchSound s ∧ LadderSound s ∧ DemandSound s ∧ step s = .next (answer (step s)) ∧
      s.emerg.recorded ≠ 0) :=
  ⟨settle (latched .lever <| (fun s => s.withPending [.settleTimerExpires]) base), latch_of (by decide +kernel),
  ladder_of (by decide +kernel), demand_of (by decide +kernel), next_of (by decide +kernel), by decide +kernel⟩

theorem witness_StepKeepsSoundChannels :
    (∃ s : State, SoundsSound s ∧ step s = .next (answer (step s)) ∧ s.sound.channels.bell.waiting ≠ []) :=
  ⟨settle (sound (fun x => { x with channels := { x.channels with bell := ⟨some ⟨.emergency, 7, 2, 2, 0, true⟩, 0, [⟨.manualBell, 0, 1, 0, 1, true⟩]⟩ } }) <| (fun s => s.withPending [.soundStepExpires .bell]) base),
  sounds_of (by decide +kernel), next_of (by decide +kernel), by decide +kernel⟩

theorem witness_StepKeepsRoleAndRecord :
    (∃ s : State, ConsistSound s ∧ step s = .next (answer (step s)) ∧ s.consist.role = some .lead) :=
  ⟨settle (auth (.active .a) <| coupled .lead <| (fun s => s.withPending [.keyOff .a]) base),
  consist_of (by decide +kernel) (by decide +kernel) (by decide +kernel), next_of (by decide +kernel),
  by decide +kernel⟩

theorem witness_SourcesStayRecorded :
    (∃ s : State, exec (.release .ca) s = .next (answer (exec (.release .ca) s)) ∧
      s.emerg.recorded.getLsbD EmergencySource.key.bit = true) ∧
    (∃ s : State, exec (.emergencyReset .ca) s = .next (answer (exec (.emergencyReset .ca) s)) ∧
      s.emerg.recorded.getLsbD EmergencySource.key.bit = true ∧
      (answer (exec (.emergencyReset .ca) s)).emerg.recorded = 0) :=
  ⟨⟨settle (latched .key base), next_of (by decide +kernel), by decide +kernel⟩,
   ⟨settle (auth (.active .a) <| latched .key <| asks .ca ⟨0x12, 5, []⟩ base), next_of (by decide +kernel),
     by decide +kernel⟩⟩

theorem witness_OnlyClaimsMakeActive :
    (∃ s : State, exec (.claim .ca) s = .next (answer (exec (.claim .ca) s)) ∧
      (answer (exec (.claim .ca) s)).auth.record = .active .a ∧ s.auth.record ≠ .active .a) ∧
    (∃ s : State,
      exec (.consistPage .b 5 (consistPage1 ({ frame with answer := some (1, true) }))) s = .next (answer (exec (.consistPage .b 5 (consistPage1 ({ frame with answer := some (1, true) }))) s)) ∧
      (answer (exec (.consistPage .b 5 (consistPage1 ({ frame with answer := some (1, true) }))) s)).auth.record = .active .a ∧
      s.auth.record ≠ .active .a) :=
  ⟨⟨settle (asks .ca ⟨0x10, 5, []⟩ base), next_of (by decide +kernel), by decide +kernel⟩,
   ⟨settle (brings ({ frame with answer := some (1, true) }) <| auth (.claiming ⟨.a, 9, 1,
     .dark⟩) <| port .ca (fun x => { x with unanswered := some ⟨0x10, 5, []⟩ }) <| coupled .neutral base),
     next_of (by decide +kernel), by decide +kernel⟩⟩

theorem witness_StabledWakesOnlyByLevel :
    (∃ s : State, exec (.keyOn .a) s = .next (answer (exec (.keyOn .a) s)) ∧ s.auth.record = .stabled 5 ∧
      (answer (exec (.keyOn .a) s)).auth.record = .dark) ∧
    (∃ s : State, exec (.keyOn .a) s = .next (answer (exec (.keyOn .a) s)) ∧ s.auth.record = .stabled 6 ∧
      (answer (exec (.keyOn .a) s)).auth.record = .stabled 6) :=
  ⟨⟨settle (pins (fun x => { x with key := ⟨false, true⟩ }) <| auth (.stabled 5) base), next_of (by decide +kernel),
  by decide +kernel⟩,
   ⟨settle (pins (fun x => { x with key := ⟨false, true⟩ }) <| auth (.stabled 6) base), next_of (by decide +kernel),
     by decide +kernel⟩⟩

theorem witness_OnlyConfigureWritesConfiguration :
    (∃ s : State, exec (.lineReset) s = .next (answer (exec (.lineReset) s)) ∧ configures .lineReset = false) :=
  ⟨base, next_of (by decide +kernel), by decide +kernel⟩

theorem witness_DemandObeysPermitAndLatch :
    (∃ s : State, LadderSound s ∧ (∀ n, s.auth.record ≠ .stabled n) ∧ exec (.periodUpdate ⟨true, true, true,
      true⟩) s = .next (answer (exec (.periodUpdate ⟨true, true, true, true⟩) s)) ∧
      0 < (answer (exec (.periodUpdate ⟨true, true, true, true⟩) s)).shaper.prev ∧ (answer (exec (.periodUpdate ⟨true,
      true, true, true⟩) s)).emerg.recorded = 0) ∧
    (∃ s : State, LadderSound s ∧ (∀ n, s.auth.record ≠ .stabled n) ∧ exec (.periodUpdate ⟨true, true, true,
      true⟩) s = .next (answer (exec (.periodUpdate ⟨true, true, true, true⟩) s)) ∧
      (answer (exec (.periodUpdate ⟨true, true, true, true⟩) s)).emerg.recorded ≠ 0) ∧
    (∃ s : State, LadderSound s ∧ (∀ n, s.auth.record ≠ .stabled n) ∧ exec (.periodUpdate ⟨true, true, true,
      true⟩) s = .next (answer (exec (.periodUpdate ⟨true, true, true, true⟩) s)) ∧
      (demandInputs s.shaper.prev (answer (exec (.periodUpdate ⟨true, true, true, true⟩) s))).over = true ∧
      s.shaper.overspeed = false ∧ (answer (exec (.periodUpdate ⟨true, true, true, true⟩) s)).emerg.recorded = 0) ∧
    (∃ s : State, LadderSound s ∧ (∀ n, s.auth.record ≠ .stabled n) ∧ exec (.periodUpdate ⟨true, true, true,
      true⟩) s = .next (answer (exec (.periodUpdate ⟨true, true, true, true⟩) s)) ∧ s.shaper.adhesion ≠ .slip ∧
      0 < s.shaper.prev ∧ (axleGet (answer (exec (.periodUpdate ⟨true, true, true,
      true⟩) s)).speed.axles .m1).health = .healthy 0 0 ∧ (answer (exec (.periodUpdate ⟨true, true, true,
      true⟩) s)).speed.vRef + 15 < (axleGet (answer (exec (.periodUpdate ⟨true, true, true,
      true⟩) s)).speed.axles .m1).speed) ∧
    (∃ s : State, LadderSound s ∧ (∀ n, s.auth.record ≠ .stabled n) ∧ exec (.periodUpdate ⟨true, true, true,
      true⟩) s = .next (answer (exec (.periodUpdate ⟨true, true, true, true⟩) s)) ∧ s.shaper.adhesion ≠ .slip ∧
      s.shaper.prev < 0 ∧ (axleGet (answer (exec (.periodUpdate ⟨true, true, true,
      true⟩) s)).speed.axles .m1).health = .healthy 0 0 ∧ (axleGet (answer (exec (.periodUpdate ⟨true, true, true,
      true⟩) s)).speed.axles .m1).speed + 15 < (answer (exec (.periodUpdate ⟨true, true, true, true⟩) s)).speed.vRef) ∧
    (∃ s : State, LadderSound s ∧ (∀ n, s.auth.record ≠ .stabled n) ∧ exec (.periodUpdate ⟨true, true, true,
      true⟩) s = .next (answer (exec (.periodUpdate ⟨true, true, true, true⟩) s)) ∧ s.shaper.adhesion = .slip ∧
      s.shaper.calm < 4 ∧ (axleGet (answer (exec (.periodUpdate ⟨true, true, true,
      true⟩) s)).speed.axles .m1).speed < (answer (exec (.periodUpdate ⟨true, true, true, true⟩) s)).speed.vRef + 5 ∧
      (axleGet (answer (exec (.periodUpdate ⟨true, true, true,
      true⟩) s)).speed.axles .m2).speed < (answer (exec (.periodUpdate ⟨true, true, true, true⟩) s)).speed.vRef + 5) ∧
    (∃ s : State, LadderSound s ∧ (∀ n, s.auth.record ≠ .stabled n) ∧ exec (.periodUpdate ⟨true, true, true,
      true⟩) s = .next (answer (exec (.periodUpdate ⟨true, true, true, true⟩) s)) ∧ s.shaper.adhesion = .slip ∧
      4 ≤ s.shaper.calm ∧ (axleGet (answer (exec (.periodUpdate ⟨true, true, true,
      true⟩) s)).speed.axles .m1).speed < (answer (exec (.periodUpdate ⟨true, true, true, true⟩) s)).speed.vRef + 5 ∧
      (axleGet (answer (exec (.periodUpdate ⟨true, true, true,
      true⟩) s)).speed.axles .m2).speed < (answer (exec (.periodUpdate ⟨true, true, true, true⟩) s)).speed.vRef + 5) ∧
    (∃ s : State, LadderSound s ∧ (∀ n, s.auth.record ≠ .stabled n) ∧ exec (.periodUpdate ⟨true, true, true,
      true⟩) s = .next (answer (exec (.periodUpdate ⟨true, true, true, true⟩) s)) ∧ s.shaper.adhesion = .slip ∧
      (axleGet (answer (exec (.periodUpdate ⟨true, true, true, true⟩) s)).speed.axles .m1).health = .healthy 0 0 ∧
      (answer (exec (.periodUpdate ⟨true, true, true,
      true⟩) s)).speed.vRef + 5 ≤ (axleGet (answer (exec (.periodUpdate ⟨true, true, true,
      true⟩) s)).speed.axles .m1).speed) ∧
    (∃ s : State, LadderSound s ∧ (∀ n, s.auth.record ≠ .stabled n) ∧ exec (.periodUpdate ⟨true, true, true,
      true⟩) s = .next (answer (exec (.periodUpdate ⟨true, true, true, true⟩) s)) ∧ s.shaper.adhesion = .recover ∧
      s.shaper.prev = 0 ∧ s.shaper.cap < 98 ∧ (answer (exec (.periodUpdate ⟨true, true, true,
      true⟩) s)).shaper.history.length < 3) ∧
    (∃ s : State, LadderSound s ∧ (∀ n, s.auth.record ≠ .stabled n) ∧ exec (.periodUpdate ⟨true, true, true,
      true⟩) s = .next (answer (exec (.periodUpdate ⟨true, true, true, true⟩) s)) ∧ s.shaper.adhesion = .recover ∧
      s.shaper.prev = 0 ∧ 98 ≤ s.shaper.cap ∧ 3 ≤ (answer (exec (.periodUpdate ⟨true, true, true,
      true⟩) s)).shaper.history.length ∧ s.emerg.demands.adhesion = none) ∧
    (∃ s : State, LadderSound s ∧ (∀ n, s.auth.record ≠ .stabled n) ∧ exec (.periodUpdate ⟨true, true, true,
      true⟩) s = .next (answer (exec (.periodUpdate ⟨true, true, true, true⟩) s)) ∧ s.shaper.adhesion = .grip ∧
      s.shaper.prev = 0) ∧
    (∃ s : State, LadderSound s ∧ (∀ n, s.auth.record ≠ .stabled n) ∧ exec (.periodUpdate ⟨true, true, true,
      true⟩) s = .next (answer (exec (.periodUpdate ⟨true, true, true, true⟩) s)) ∧ s.shaper.released = true ∧
      (answer (exec (.periodUpdate ⟨true, true, true, true⟩) s)).emerg.recorded = 0 ∧ s.shaper.adhesion = .grip) ∧
    (∃ s : State, LadderSound s ∧ (∀ n, s.auth.record ≠ .stabled n) ∧ exec (.periodUpdate ⟨true, true, true,
      true⟩) s = .next (answer (exec (.periodUpdate ⟨true, true, true, true⟩) s)) ∧ s.shaper.released = true ∧
      (answer (exec (.periodUpdate ⟨true, true, true, true⟩) s)).emerg.recorded = 0 ∧ s.shaper.adhesion ≠ .slip ∧
      (axleGet (answer (exec (.periodUpdate ⟨true, true, true, true⟩) s)).speed.axles .m1).health = .healthy 0 0 ∧
      (axleGet (answer (exec (.periodUpdate ⟨true, true, true,
      true⟩) s)).speed.axles .m1).speed + 15 < (answer (exec (.periodUpdate ⟨true, true, true, true⟩) s)).speed.vRef) ∧
    (∃ s : State, LadderSound s ∧ (∀ n, s.auth.record ≠ .stabled n) ∧ exec (.periodUpdate ⟨true, true, true,
      true⟩) s = .next (answer (exec (.periodUpdate ⟨true, true, true, true⟩) s)) ∧ s.shaper.released = true ∧
      (answer (exec (.periodUpdate ⟨true, true, true, true⟩) s)).emerg.recorded ≠ 0) :=
  ⟨⟨settle (auth (.active .a) <| cab .a (console (.number 100) true) <| emerg (fun x => { x with divisor := 1 }) <| shape (fun x => { x with dwell := 0 }) base),
  ladder_of (by decide +kernel), awake_of (by decide +kernel), next_of (by decide +kernel), by decide +kernel⟩,
   ⟨settle (auth (.active .a) <| latched .lever base), ladder_of (by decide +kernel), awake_of (by decide +kernel),
     next_of (by decide +kernel), by decide +kernel⟩,
   ⟨settle (auth (.active .a) <| cab .a (console (.number 100) true) <| emerg (fun x => { x with divisor := 1 }) <| speed (fun x => { x with axles := ⟨⟨20, [20, 20, 20, 20, 20], 0, true, .healthy 0 0⟩, ⟨20, [20, 20, 20, 20, 20], 0, true, .healthy 0 0⟩, ⟨20, [20, 20, 20, 20, 20], 0, true, .healthy 0 0⟩, ⟨20, [20, 20, 20, 20, 20], 0, true, .healthy 0 0⟩⟩ }) <| base),
     ladder_of (by decide +kernel), awake_of (by decide +kernel), next_of (by decide +kernel), by decide +kernel⟩,
   ⟨settle (auth (.active .a) <| shape (fun x => { x with prev := 40 }) <| speed (fun x => { x with axles := ⟨⟨3, [3, 3, 3, 3, 3], 0, true, .healthy 0 0⟩, ⟨3, [3, 3, 3, 3, 3], 0, true, .healthy 0 0⟩, ⟨9, [9, 9, 9, 9, 9], 0, true, .healthy 0 0⟩, ⟨3, [3, 3, 3, 3, 3], 0, true, .healthy 0 0⟩⟩ }) <| base),
     ladder_of (by decide +kernel), awake_of (by decide +kernel), next_of (by decide +kernel), by decide +kernel⟩,
   ⟨settle (auth (.active .a) <| shape (fun x => { x with prev := -40, adhesion := .recover, cap := 50 }) <| speed (fun x => { x with axles := ⟨⟨9, [9, 9, 9, 9, 9], 0, true, .healthy 0 0⟩, ⟨9, [9, 9, 9, 9, 9], 0, true, .healthy 0 0⟩, ⟨3, [3, 3, 3, 3, 3], 0, true, .healthy 0 0⟩, ⟨9, [9, 9, 9, 9, 9], 0, true, .healthy 0 0⟩⟩ }) <| base),
     ladder_of (by decide +kernel), awake_of (by decide +kernel), next_of (by decide +kernel), by decide +kernel⟩,
   ⟨settle (auth (.active .a) <| shape (fun x => { x with prev := 40, adhesion := .slip, cap := 20, calm := 3 }) <| speed (fun x => { x with axles := ⟨⟨3, [3, 3, 3, 3, 3], 0, true, .healthy 0 0⟩, ⟨3, [3, 3, 3, 3, 3], 0, true, .healthy 0 0⟩, ⟨3, [3, 3, 3, 3, 3], 0, true, .healthy 0 0⟩, ⟨3, [3, 3, 3, 3, 3], 0, true, .healthy 0 0⟩⟩ }) <| base),
     ladder_of (by decide +kernel), awake_of (by decide +kernel), next_of (by decide +kernel), by decide +kernel⟩,
   ⟨settle (auth (.active .a) <| shape (fun x => { x with prev := 40, adhesion := .slip, cap := 20, calm := 4 }) <| speed (fun x => { x with axles := ⟨⟨3, [3, 3, 3, 3, 3], 0, true, .healthy 0 0⟩, ⟨3, [3, 3, 3, 3, 3], 0, true, .healthy 0 0⟩, ⟨3, [3, 3, 3, 3, 3], 0, true, .healthy 0 0⟩, ⟨3, [3, 3, 3, 3, 3], 0, true, .healthy 0 0⟩⟩ }) <| base),
     ladder_of (by decide +kernel), awake_of (by decide +kernel), next_of (by decide +kernel), by decide +kernel⟩,
   ⟨settle (auth (.active .a) <| shape (fun x => { x with prev := 40, adhesion := .slip, cap := 20, calm := 4 }) <| speed (fun x => { x with axles := ⟨⟨3, [3, 3, 3, 3, 3], 0, true, .healthy 0 0⟩, ⟨3, [3, 3, 3, 3, 3], 0, true, .healthy 0 0⟩, ⟨9, [9, 9, 9, 9, 9], 0, true, .healthy 0 0⟩, ⟨3, [3, 3, 3, 3, 3], 0, true, .healthy 0 0⟩⟩ }) <| base),
     ladder_of (by decide +kernel), awake_of (by decide +kernel), next_of (by decide +kernel), by decide +kernel⟩,
   ⟨settle (auth (.active .a) <| shape (fun x => { x with adhesion := .recover, cap := 97, history := [0, 1, 249] }) <| base),
     ladder_of (by decide +kernel), awake_of (by decide +kernel), next_of (by decide +kernel), by decide +kernel⟩,
   ⟨settle (auth (.active .a) <| shape (fun x => { x with adhesion := .recover, cap := 98, history := [0, 1, 248] }) <| base),
     ladder_of (by decide +kernel), awake_of (by decide +kernel), next_of (by decide +kernel), by decide +kernel⟩,
   ⟨settle (auth (.active .a) <|  base), ladder_of (by decide +kernel), awake_of (by decide +kernel),
     next_of (by decide +kernel), by decide +kernel⟩,
   ⟨settle (auth (.active .a) <| shape (fun x => { x with prev := 60, released := true }) <| base),
     ladder_of (by decide +kernel), awake_of (by decide +kernel), next_of (by decide +kernel), by decide +kernel⟩,
   ⟨settle (auth (.active .a) <| shape (fun x => { x with prev := 60, released := true }) <| speed (fun x => { x with axles := ⟨⟨9, [9, 9, 9, 9, 9], 0, true, .healthy 0 0⟩, ⟨9, [9, 9, 9, 9, 9], 0, true, .healthy 0 0⟩, ⟨3, [3, 3, 3, 3, 3], 0, true, .healthy 0 0⟩, ⟨9, [9, 9, 9, 9, 9], 0, true, .healthy 0 0⟩⟩ }) <| base),
     ladder_of (by decide +kernel), awake_of (by decide +kernel), next_of (by decide +kernel), by decide +kernel⟩,
   ⟨settle (auth (.active .a) <| shape (fun x => { x with prev := 60, released := true }) <| latched .lever <| base),
     ladder_of (by decide +kernel), awake_of (by decide +kernel), next_of (by decide +kernel), by decide +kernel⟩⟩

theorem witness_EveryStepSettlesAndDrivesTheBrake :
    (∃ s : State, Settled s ∧ NothingDue s ∧ step s = .next (answer (step s)) ∧ s.pending = [] ∧ s.clock.phase < 49) ∧
    (∃ s : State, Settled s ∧ NothingDue s ∧ step s = .next (answer (step s)) ∧ s.pending = [] ∧ 49 ≤ s.clock.phase) ∧
    (∃ s : State, Settled s ∧ ¬ NothingDue s ∧ s.pending = [] ∧ ready s ≠ []) ∧
    (∃ s : State, Settled s ∧ ¬ NothingDue s ∧ step s = .next (answer (step s)) ∧ s.pending = [] ∧ ready s ≠ []) :=
  ⟨⟨settle base, settled_of (by decide +kernel), nothing_of (by decide +kernel), next_of (by decide +kernel),
  by decide +kernel⟩,
   ⟨settle (auth (.claiming ⟨.a, 9, 1,
     .parked .b 8⟩) <| coupled .neutral <| table [{ record 7 (some .left) .requested with lastReport := some ⟨.left, .free, 65535⟩, reportTimer := some 9 }] <| junc (fun x => { x with enquiry := .waiting 7 3 }) <| sound (fun x => { x with channels := { x.channels with horn := ⟨some ⟨.manualHorn, 1, 1, 0, 0, true⟩, 9, []⟩ } }) <| (fun s => s.withClock { s.clock with phase := 49 }) <| base),
     settled_of (by decide +kernel), nothing_of (by decide +kernel), next_of (by decide +kernel), by decide +kernel⟩,
   ⟨settle ((fun s => s.withClock { s.clock with period := 0, sampling := 0 }) <| base),
     settled_of (by decide +kernel), fun h => h.timers (by decide +kernel), by decide +kernel⟩,
   ⟨settle ((fun s => s.withClock { s.clock with period := 0 }) <| base), settled_of (by decide +kernel),
     fun h => h.timers (by decide +kernel), next_of (by decide +kernel), by decide +kernel⟩⟩

end Sys2Proof.Tests
end

section
/-!
PROOF. Only the items of CONFIGURE and the power-on reset write configuration: what each row touches beside it.
-/

namespace Sys2Proof.Machine

/-! ### Configuration among the parts of the state -/

/-- The parts that hold configuration, alone or beside values that run. -/
def configParts : List Part := [.speed, .lines, .patterns, .vigilanceSetting, .levels, .identity]

theorem SameConfiguration.refl (s : State) : SameConfiguration s s :=
  ⟨⟨rfl, rfl, rfl⟩, rfl, fun _ => ⟨rfl, rfl, rfl⟩, fun _ => ⟨rfl, rfl⟩, rfl, ⟨rfl, rfl⟩, rfl⟩

theorem SameConfiguration.trans {s t u : State} (h : SameConfiguration s t) (k : SameConfiguration t u) :
    SameConfiguration s u where
  identity := by simp only [k.identity, h.identity, and_self]
  pulseLength := k.pulseLength.trans h.pulseLength
  monitors i := by simp only [k.monitors i, h.monitors i, and_self]
  inputMap n := by simp only [k.inputMap n, h.inputMap n, and_self]
  patterns := k.patterns.trans h.patterns
  vigilance := by simp only [k.vigilance, h.vigilance, and_self]
  levels := k.levels.trans h.levels

/-- What changes no part that holds configuration leaves the configuration as it is. -/
theorem Changes.sameConfiguration {a : List Part} {s t : State} (h : Changes a s t)
    (out : ∀ p ∈ configParts, p ∉ a) : SameConfiguration s t := by
  have speed : t.speed = s.speed := h .speed (out _ (by decide))
  have lines : t.stop.lines = s.stop.lines := h .lines (out _ (by decide))
  exact {
    identity := h .identity (out _ (by decide))
    pulseLength := by rw [speed]
    monitors := fun i => by simp only [speed, and_self]
    inputMap := fun n => by simp only [lines, and_self]
    patterns := h .patterns (out _ (by decide))
    vigilance := h .vigilanceSetting (out _ (by decide))
    levels := h .levels (out _ (by decide)) }

/-- The end of an event leaves the configuration. -/
theorem settle_sameConfiguration (s : State) : SameConfiguration s (settle s) :=
  (settle_changes s).sameConfiguration (by decide)

/-- An event whose effect keeps the configuration keeps it to its end. -/
theorem SameConfiguration.of_done {s u t : State} (h : SameConfiguration s u) (run : done u = .next t) :
    SameConfiguration s t := by
  cases run
  exact h.trans (settle_sameConfiguration u)

/-- An event within parts that hold no configuration. -/
theorem Changes.keeps {a : List Part} {s u t : State} (h : Changes a s u) (run : done u = .next t)
    (out : ∀ p ∈ configParts, p ∉ a) : SameConfiguration s t :=
  (h.sameConfiguration out).of_done run

/-- A port holds no configuration. -/
theorem configParts_port (p : Port) (a : List Part) (out : ∀ q ∈ configParts, q ∉ a) :
    ∀ q ∈ configParts, q ∉ Part.port p :: a := by
  intro q hq hin
  rcases List.mem_cons.mp hin with rfl | hin
  · simp [configParts] at hq
  · exact out q hq hin

/-! ### Commands -/

theorem giveReply_changes (p : Port) (c : Command) (r : Reply × State) :
    Changes [.port p, .owed, .port .vl] r.2 (giveReply p c r) := by
  unfold giveReply
  have h := flushNotice_changes r.2
  split
  · exact (h.trans (deliver_changes p _ _)).mono (by simp)
  · exact (h.trans (deliver_changes p _ _)).mono (by simp)
  · exact h.mono (by simp)

/-- Serving a port touches the port and what the owner of the command touches. -/
theorem serve_changes (p : Port) (ofRow : Command → Bool) (owner : Command → State → Reply × State) (a : List Part)
    (s : State) (h : ∀ c t, Changes a t (owner c t).2) :
    Changes (.port p :: .owed :: .port .vl :: a) s (serve p ofRow owner s) := by
  have answered (c : Command) (t : State) :
      Changes (.port p :: .owed :: .port .vl :: a) t (decideCommand p c owner t) := by
    unfold decideCommand
    split
    · exact (deliver_changes p _ t).mono (by simp)
    · refine Changes.comp (t := (ownerReply c owner t).2) ?_ ((giveReply_changes p c _).mono (by simp))
      unfold ownerReply
      split
      · exact Changes.refl _ _
      · exact (h c t).mono (by simp; tauto)
  unfold serve
  split
  · split
    · exact Changes.refl _ _
    · exact Changes.ite (((popCommand_changes p _ s).mono (by simp)).comp (answered _ _)) (Changes.refl _ _)
  · exact Changes.refl _ _

theorem fromEnd_changes (p : Port) (owner : End → Command → State → Reply × State) (a : List Part)
    (h : ∀ e c t, Changes a t (owner e c t).2) (c : Command) (t : State) : Changes a t (fromEnd p owner c t).2 := by
  unfold fromEnd
  split
  · exact h _ c t
  · exact Changes.refl _ _

/-- A served command whose owner touches no configuration keeps it. -/
theorem serve_keeps {p : Port} {ofRow : Command → Bool} {owner : Command → State → Reply × State} {a : List Part}
    {s t : State} (h : ∀ c u, Changes a u (owner c u).2) (run : done (serve p ofRow owner s) = .next t)
    (out : ∀ q ∈ configParts, q ∉ a) : SameConfiguration s t :=
  (serve_changes p ofRow owner a s h).keeps run
    (configParts_port p _ (by simpa [configParts] using out))

theorem claimFrom_changes (e : End) (prev : Previous) (c : Command) (take : State → State)
    (h : ∀ t, Changes authorised t (take t)) (s : State) : Changes authorised s (claimFrom e prev c take s).2 := by
  unfold claimFrom
  split
  case h_1 => exact beginExchange_changes e prev c s
  case h_2 | h_3 => exact Changes.refl _ _
  all_goals exact h s

theorem decideClaim_changes (e : End) (c : Command) (s : State) : Changes authorised s (decideClaim e c s).2 := by
  have byRecord : Changes authorised s (claimByRecord e c s).2 := by
    unfold claimByRecord
    split
    · exact claimFrom_changes e _ c _ (changeRecord_changes _) s
    · split
      · exact claimFrom_changes e _ c _ (changeRecord_changes _) s
      · split
        · exact Changes.refl _ _
        · split
          · exact Changes.refl _ _
          · exact claimFrom_changes e _ c _ (handover_changes e) s
    · split <;> exact Changes.refl _ _
    all_goals exact Changes.refl _ _
  unfold decideClaim
  split
  · exact Changes.refl _ _
  · split
    · exact Changes.refl _ _
    · exact byRecord

theorem decideRelease_changes (e : End) (c : Command) (s : State) : Changes authorised s (decideRelease e c s).2 := by
  unfold decideRelease
  split
  · split
    · exact park_changes e s
    · exact Changes.refl _ _
  · exact Changes.refl _ _

theorem decideReset_changes (e : End) (c : Command) (s : State) :
    Changes (.shaper :: .ladder :: sourced) s (decideReset e c s).2 := by
  unfold decideReset
  repeat' split
  case isFalse => exact releaseLatch_changes s
  all_goals exact Changes.refl _ _

theorem releaseSide_changes (side2 : Bool) (s : State) : Changes (.choices :: pressed) s (releaseSide side2 s) := by
  have released (t : State) (h : Changes (.choices :: pressed) s t) :
      Changes (.choices :: pressed) s (sideReleased side2 t) :=
    h.comp (((withPulses_changes _ t).trans (appendEvent_changes _ _)).mono (by decide))
  have own (o : StopState) : Changes (.choices :: pressed) s (setOwn o s) := (setOwn_changes o s).mono (by decide)
  unfold releaseSide
  split
  · exact released _ (own _)
  · exact released _ (own _)
  · exact Changes.ite (Changes.refl _ _) (released _ (own _))
  · exact released _ (Changes.ite ((own _).comp (carryAssist_changes _ _)) (own _))

theorem decideDoorRelease_changes (e : End) (c : Command) (s : State) :
    Changes (.choices :: pressed) s (decideDoorRelease e c s).2 := by
  unfold decideDoorRelease
  split
  · exact Changes.refl _ _
  · split
    · exact Changes.refl _ _
    · split
      · exact Changes.refl _ _
      · exact releaseSide_changes _ s

theorem closeDoors_changes (s : State) : Changes pressed s (closeDoors s) :=
  ((((setOwn_changes _ s).trans (endPulses_changes _)).trans (requestSound_changes _ _ _ _ _)).trans
    (appendEvent_changes _ _)).mono (by decide)

theorem decideDoorClose_changes (e : End) (c : Command) (s : State) : Changes pressed s (decideDoorClose e c s).2 := by
  unfold decideDoorClose
  split
  · exact Changes.refl _ _
  · split
    · exact Changes.refl _ _
    · exact Changes.refl _ _
    · split
      · exact Changes.refl _ _
      · exact closeDoors_changes s
    · exact Changes.refl _ _

theorem decideAssistAck_changes (e : End) (c : Command) (s : State) :
    Changes [.stopState] s (decideAssistAck e c s).2 := by
  unfold decideAssistAck
  split
  · exact Changes.refl _ _
  · split
    · exact setOwn_changes _ s
    · exact Changes.refl _ _

theorem takeLeg_changes (x : JunctionRecord) (leg : Leg) (s : State) : Changes tabled s (takeLeg x leg s) :=
  (((updateRecord_changes _ _ s).trans (offerRequest_changes _ _ _)).trans (appendEvent_changes _ _)).mono (by decide)

theorem decideSelectLeg_changes (e : End) (c : Command) (s : State) :
    Changes (.pendingItems :: tabled) s (decideSelectLeg e c s).2 := by
  unfold decideSelectLeg
  split
  · exact Changes.refl _ _
  · split
    · exact Changes.refl _ _
    · split
      · split
        · exact Changes.refl _ _
        · exact (takeLeg_changes _ _ s).mono (by decide)
      · exact (withPendingItems_changes _ s.junction.pendingPermit s).mono (by decide)

theorem decideCancelLeg_changes (e : End) (c : Command) (s : State) :
    Changes (.pendingItems :: tabled) s (decideCancelLeg e c s).2 := by
  unfold decideCancelLeg
  split
  · exact Changes.refl _ _
  · split
    · exact (withPendingItems_changes _ s.junction.pendingPermit s).mono (by decide)
    · exact (cancelRecord_changes _ s).mono (by decide)
    · exact Changes.refl _ _

theorem decidePermit_changes (e : End) (c : Command) (s : State) :
    Changes [.pendingItems, .table] s (decidePermit e c s).2 := by
  unfold decidePermit
  split
  · exact Changes.refl _ _
  · split
    · exact Changes.refl _ _
    · split
      · exact (updateRecord_changes _ _ s).mono (by decide)
      · exact (withPendingItems_changes s.junction.pendingLeg _ s).mono (by decide)

theorem waitFor_changes (j : Nat) (s : State) : Changes [.enquiry, .queues, .table] s (waitFor j s) :=
  ((offerQuery_changes j s).trans (setEnquiry_changes _ _)).mono (by decide)

theorem enquire_changes (j : Nat) (s : State) : Changes [.enquiry, .queues, .table] s (enquire j s).2 := by
  unfold enquire
  split
  · split
    · exact Changes.refl _ _
    · exact waitFor_changes j s
  · split
    · exact waitFor_changes j s
    · exact Changes.refl _ _
  · split
    · exact (setEnquiry_changes _ s).mono (by decide)
    · exact Changes.refl _ _

theorem decideEnquire_changes (e : End) (c : Command) (s : State) :
    Changes [.enquiry, .queues, .table] s (decideEnquire e c s).2 := by
  unfold decideEnquire
  split
  · split
    · exact enquire_changes _ s
    · exact Changes.refl _ _
  · exact Changes.refl _ _

theorem decidePlanAppend_changes (c : Command) (s : State) : Changes [.plan] s (decidePlanAppend c s).2 := by
  unfold decidePlanAppend
  split
  · exact Changes.refl _ _
  · split
    · exact withPlan_changes _ s
    · exact Changes.refl _ _

theorem decideReadEvent_changes (c : Command) (s : State) : Changes reported s (decideReadEvent c s).2 := by
  unfold decideReadEvent
  split
  · exact (raiseFlag_changes _ s).mono (by decide)
  · exact (withEvents_changes _ s).mono (by decide)

theorem decideApplyEmergency_changes (c : Command) (s : State) :
    Changes (.commandHold :: sourced) s (decideApplyEmergency c s).2 :=
  ((withCommandHold_changes true s).trans (setSource_changes _ _)).mono (by decide)

theorem decideReleaseCommand_changes (c : Command) (s : State) :
    Changes [.commandHold] s (decideReleaseCommand c s).2 := by
  unfold decideReleaseCommand
  split
  · exact withCommandHold_changes false s
  · exact Changes.refl _ _

theorem decideSendTelegram_changes (c : Command) (s : State) :
    Changes [.queues, .table] s (decideSendTelegram c s).2 := by
  unfold decideSendTelegram
  split
  next h => exact offerService_changes _ s _ h
  next => exact Changes.refl _ _

theorem decideStable_changes (c : Command) (s : State) : Changes stabled s (decideStable c s).2 := by
  unfold decideStable
  repeat' split
  case isFalse => exact enterStabled_changes _ s
  all_goals exact Changes.refl _ _

theorem decideWake_changes (c : Command) (s : State) : Changes authorised s (decideWake c s).2 := by
  unfold decideWake
  split
  · split
    · exact wakeUp_changes _ s
    · exact Changes.refl _ _
  all_goals exact Changes.refl _ _

theorem decideSoundTest_changes (c : Command) (s : State) : Changes [.channels] s (decideSoundTest c s).2 := by
  have placed (k : Speaker) (n : Fin 16) : Changes [.channels] s (testSound k n s).2 := by
    unfold testSound
    split
    · exact Changes.refl _ _
    · exact requestSound_changes _ _ _ _ s
  unfold decideSoundTest
  split
  · split
    · split
      · exact Changes.refl _ _
      · split
        · exact placed _ _
        · split
          · exact withdrawSound_changes _ _ s
          · exact Changes.refl _ _
    · exact Changes.refl _ _
  · exact Changes.refl _ _

theorem withFlags_changes (w : Word16) (s : State) : Changes [.flags] s (s.withVl { s.vl with flags := w }) := by
  intro p hp
  cases p <;> first | exact absurd (by decide) hp | (repeat' constructor)

theorem withMask_changes (w : Word16) (s : State) : Changes [.mask] s (s.withVl { s.vl with mask := w }) := by
  intro p hp
  cases p <;> first | exact absurd (by decide) hp | (repeat' constructor)

theorem decideClearFlags_changes (c : Command) (s : State) : Changes [.flags] s (decideClearFlags c s).2 := by
  unfold decideClearFlags
  split
  · exact Changes.refl _ _
  · exact withFlags_changes _ s

theorem decideSetMask_changes (c : Command) (s : State) : Changes [.mask] s (decideSetMask c s).2 := by
  unfold decideSetMask
  split
  · exact Changes.refl _ _
  · exact withMask_changes _ s

theorem decideForceFlags_changes (c : Command) (s : State) :
    Changes [.flags, .owed] s (decideForceFlags c s).2 := by
  unfold decideForceFlags
  split
  · exact Changes.refl _ _
  · split
    · exact Changes.refl _ _
    · exact raiseSet_changes _ s

/-! ### Events of the links and lines -/

theorem setSlot_changes (e : End) (x : Slot) (s : State) : Changes [.slots] s (setSlot e x s) := withSlots_changes _ s

theorem buttonChange_changes (k : Speaker) (src : SoundSource) (n : Fin 16) (b c : Bool) (s : State) :
    Changes [.channels] s (buttonChange k src n b c s) :=
  Changes.ite (requestSound_changes _ _ _ _ s) (Changes.ite (withdrawSound_changes _ _ s) (Changes.refl _ _))

/-- The parts a cab state of the active end touches. -/
def handedOn : List Part := [.slots, .vigilance, .latch, .channels, .events, .flags, .owed]

theorem handOnSlot_changes (old new : Slot) (s : State) : Changes handedOn s (handOnSlot old new s) := by
  have hold : Changes handedOn s (vigilanceHold new.deadman s) := (vigilanceHold_changes _ s).mono (by decide)
  have lever (u : State) : Changes handedOn u (if new.lever ≠ old.lever then vigilanceLever u else u) :=
    Changes.ite ((vigilanceLever_changes u).mono (by decide)) (Changes.refl _ _)
  have ack (u : State) : Changes handedOn u (if new.ack && !old.ack then vigilanceAck u else u) :=
    Changes.ite ((vigilanceAck_changes u).mono (by decide)) (Changes.refl _ _)
  have button (k : Speaker) (src : SoundSource) (n : Fin 16) (b c : Bool) (u : State) :
      Changes handedOn u (buttonChange k src n b c u) := (buttonChange_changes k src n b c u).mono (by decide)
  have buttons := (((hold.comp (lever _)).comp (ack _)).comp
    (button .bell .manualBell 0 old.bell new.bell _)).comp (button .horn .manualHorn 1 old.horn new.horn _)
  exact Changes.ite (buttons.comp ((setSource_changes .lever _).mono (by decide))) buttons

theorem takeCabState_changes (e : End) (new : Slot) (s : State) : Changes handedOn s (takeCabState e new s) := by
  have slot : Changes handedOn s (setSlot e new s) := (setSlot_changes e new s).mono (by decide)
  exact Changes.ite (Changes.refl _ _) (Changes.ite (slot.comp (handOnSlot_changes _ _ _)) slot)

theorem withHeldValues_changes (c k : Nat) (q : Bool) (s : State) :
    Changes [.held] s (s.withVl { s.vl with lineCeiling := c, priorityClass := k, quiet := q }) := by
  intro p hp
  cases p <;> first | exact absurd (by decide) hp | (repeat' constructor)

theorem takeVehicleState_changes (c k q d : Nat) (s : State) :
    Changes (.held :: derated) s (takeVehicleState c k q d s) :=
  ((withHeldValues_changes _ _ _ s).trans (handIfChanged_changes _ _)).mono (by decide)

theorem withAssembly_changes (x : Option (Byte × List Byte)) (s : State) : Changes [.assembly] s (s.withAssembly x) := by
  intro p hp
  cases p <;> first | exact absurd (by decide) hp | (repeat' constructor)

/-- The parts a consist page touches beside its port. -/
def paged : List Part := .assembly :: framed

theorem completePage_changes (coupler : End) (tag : Byte) (page : List Byte) (s : State) :
    Changes paged s (completePage coupler tag page s) := by
  have empty : Changes paged s (s.withAssembly none) := (withAssembly_changes none s).mono (by decide)
  unfold completePage
  split
  · split
    · split
      · exact empty.comp ((takeConsistFrame_changes _ _ _).mono (by decide))
      · exact empty
    · exact empty
  · exact empty

theorem takePage_changes (coupler : End) (tag head : Byte) (page : List Byte) (s : State) :
    Changes paged s (takePage coupler tag head page s) := by
  have set (x : Option (Byte × List Byte)) : Changes paged s (s.withAssembly x) :=
    (withAssembly_changes x s).mono (by decide)
  have flag (u : State) : Changes paged u (raiseFlag .checkErr u) := (raiseFlag_changes _ u).mono (by decide)
  unfold takePage
  exact Changes.ite ((set none).comp (flag _)) (Changes.ite (Changes.ite (set _) (flag s))
    (Changes.ite (Changes.ite (completePage_changes coupler tag page s) (flag s)) (set none)))

theorem arrive_changes (p : Port) (c : Command) (s : State) : Changes [.port p, .flags, .owed] s (arrive p c s) := by
  unfold arrive
  exact Changes.ite ((setPort_changes p _ s).mono (by simp)) (Changes.ite ((pushTx_changes p _ s).mono (by simp))
    ((raiseFlag_changes _ s).mono (by simp)))

theorem loseLink_changes (p : Port) (s : State) : Changes (.port p :: unlinked) s (loseLink p s) := by
  have lost : Changes (.port p :: unlinked) s
      (reportLink p false (s.setPort p { s.port p with link := false, silence := none })) :=
    ((setPort_changes p _ s).mono (by simp)).comp
      ((reportLink_changes p false _).mono fun q hq => List.mem_cons_of_mem _ ((by decide : ∀ q ∈ reported, q ∈ unlinked) q hq))
  unfold loseLink
  dsimp only
  split
  · exact lost.comp ((cabLinkLost_changes _ _).mono fun q hq => List.mem_cons_of_mem _ hq)
  · exact lost

theorem giveRoom_changes (p : Port) (s : State) :
    Changes [.port p, .port .vl, .owed, .choices] s (giveRoom p s) := by
  have fresh : Changes [.port p, .port .vl, .owed, .choices] s s.freshValue.2 := (freshValue_changes s).mono (by simp)
  have held (u : State) : Changes [.port p, .port .vl, .owed, .choices] u (queueHeld p u) :=
    (queueHeld_changes p u).mono (by simp)
  have notice (u : State) : Changes [.port p, .port .vl, .owed, .choices] u (flushNotice u) :=
    (flushNotice_changes u).mono (by simp)
  unfold giveRoom
  exact Changes.ite (Changes.ite ((fresh.comp (held _)).comp (notice _)) ((fresh.comp (notice _)).comp (held _)))
    (held s)

theorem emptyForward_changes (s : State) : Changes [.mirror] s (emptyForward s) :=
  Changes.ite (withMirror_changes s.stop.mirror _ s) (Changes.refl _ _)

theorem withPins_changes (x : Pins) (s : State) : Changes [.pins] s (s.withPins x) := by
  intro p hp
  cases p <;> first | exact absurd (by decide) hp | (repeat' constructor)

theorem reportOpening_changes (s : State) : Changes reported s (reportOpening s) :=
  Changes.ite (Changes.ite (Changes.refl _ _) (appendEvent_changes _ s)) (Changes.refl _ _)

/-! ### Timers, distances and the wayside channel -/

theorem onRecord_changes (j : Nat) (test : JunctionRecord → Bool) (effect : JunctionRecord → State → State)
    (a : List Part) (s : State) (h : ∀ x, Changes a s (effect x s)) : Changes a s (onRecord j test effect s) := by
  unfold onRecord
  split
  · exact Changes.ite (h _) (Changes.refl _ _)
  · exact Changes.refl _ _

theorem receive_changes (sound : Bool) (act : State → State) (a : List Part) (s : State) (h : Changes a s (act s))
    (flags : ∀ p ∈ [Part.flags, .owed], p ∈ a) : Changes a s (receive sound act s) :=
  Changes.ite (Changes.refl _ _) (Changes.ite h ((raiseFlag_changes _ s).mono flags))

theorem whereActed_changes (act : State → State) (a : List Part) (s : State) (h : Changes a s (act s)) :
    Changes a s (whereActed act s) := Changes.ite h (Changes.refl _ _)

theorem signalMarker_changes (crossing : Nat) (near : Bool) (s : State) :
    Changes (.heldPriority :: .queues :: .table :: reported) s (signalMarker crossing near s) :=
  Changes.ite ((holdPriority_changes _ s).mono (by decide)) ((offerPriority_changes _ s).mono (by decide))

theorem takeAck_changes (crossing : Nat) (s : State) :
    Changes (.acked :: .queues :: reported) s (takeAck crossing s) := by
  refine Changes.comp (t := s.withWayside _) ?_ ((appendEvent_changes _ _).mono (by decide))
  intro p hp
  cases p <;> first | exact absurd (by decide) hp | (repeat' constructor)

theorem takePress_changes (d : Fin 8) (c : PressClass) (s : State) : Changes authorised s (takePress d c s) :=
  Changes.ite (tryWake_changes _ s) (Changes.ite ((pressRemote_changes d c s).mono (by decide))
    ((pressOwn_changes d c s).mono (by decide)))

theorem pressLine_changes (n : Fin 32) (s : State) : Changes authorised s (pressLine n s) := by
  unfold pressLine
  split
  · exact takePress_changes _ _ s
  · exact Changes.refl _ _

theorem advanceSound_changes (x : PerSpeaker SoundChannel) (s : State) :
    Changes [.channels] s (s.withSound { s.sound with channels := x }) :=
  withChannels_changes x s.sound.hornOn s.sound.joins s

theorem withForcedOff_changes (f : Option Nat) (s : State) :
    Changes [.forcedOff, .channels] s (s.withSound { s.sound with forcedOff := f, hornOn := 0 }) := by
  intro p hp
  cases p <;> first | exact absurd (by decide) hp | (repeat' constructor)

end Sys2Proof.Machine
end

section
/-!
PROOF. What the period update leaves in the speed unit, stage by stage (R25 to R40).
-/

namespace Sys2Proof.Machine

/-! ### Stages 1 to 3: the axle channels -/

theorem axleGet_readAxles (closed : PerAxle Bool) (s : State) (c : Axle) :
    axleGet (readAxles closed s).speed.axles c =
      (axleGet s.speed.axles c).read s.speed.pulseLength (axleGet closed c) := by
  cases c <;> rfl

/-- A change of health writes the axle channels and nothing else of the speed unit (R32). -/
theorem applyHealth_speed (h : PerAxle Health) (s : State) : (applyHealth h s).speed = (writeHealth h s).speed := by
  have k : Changes (reported ++ derated ++ sourced) (writeHealth h s) (applyHealth h s) := by
    unfold applyHealth
    have r := ((reportHealth_changes (healthOf s.speed.axles) (writeHealth h s)).trans (handHealth_changes _))
    exact Changes.ite ((r.trans (setSource_changes .speed _)).mono (by decide)) (r.mono (by decide))
  exact k .speed (by decide)

theorem axleGet_writeHealth (h : PerAxle Health) (s : State) (c : Axle) :
    axleGet (writeHealth h s).speed.axles c = { axleGet s.speed.axles c with health := axleGet h c } := by
  cases c <;> rfl

/-- Stage 3 writes the health of the channels and nothing else of the speed unit. -/
theorem healthStage_speed (s : State) :
    (healthStage s).speed = { s.speed with axles := (healthStage s).speed.axles } := by
  unfold healthStage
  rw [applyHealth_speed]
  rfl

theorem axleGet_healthStage (s : State) (c : Axle) :
    axleGet (healthStage s).speed.axles c =
      { axleGet s.speed.axles c with health := nextHealth s.speed.axles s.speed.vRef c } := by
  unfold healthStage
  rw [applyHealth_speed, axleGet_writeHealth]
  cases c <;> rfl

/-! ### Stages 4 to 6: reference, standstill, odometer -/

theorem referenceStage_some {s : State} {c : Axle} (h : chooseReference s.speed.axles s.shaper.prev = some c) :
    (referenceStage s).speed = { s.speed with reference := some c, vRef := (axleGet s.speed.axles c).speed } := by
  simp [referenceStage, h]

theorem referenceStage_none {s : State} (h : chooseReference s.speed.axles s.shaper.prev = none) :
    (referenceStage s).speed = { s.speed with reference := none } := by
  simp [referenceStage, h]

theorem standstillStage_speed (s : State) :
    (standstillStage s).speed = { s.speed with
      lowRun := (standstillStage s).speed.lowRun, standstill := (standstillStage s).speed.standstill } := by
  unfold standstillStage
  split <;> rfl

/-- The low run counts while the reference reads below 5, up to 25, where standstill holds (R36). -/
theorem standstillStage_low {s : State} {c : Axle} (ref : s.speed.reference = some c) (low : s.speed.vRef < 5) :
    (standstillStage s).speed.lowRun = min 25 (s.speed.lowRun + 1) ∧
      ((standstillStage s).speed.standstill = true ↔ 25 ≤ s.speed.lowRun + 1) := by
  simp [standstillStage, ref, low, lowPeriod, standstillRun]

theorem standstillStage_moving {s : State} (h : s.speed.reference = none ∨ 5 ≤ s.speed.vRef) :
    (standstillStage s).speed.lowRun = 0 ∧ (standstillStage s).speed.standstill = false := by
  have : (s.speed.reference.isSome && decide (s.speed.vRef < 5)) = false := by
    rcases h with h | h <;> simp [h]
  simp [standstillStage, this]

theorem odometerStage_speed (s : State) :
    (odometerStage s).speed = { s.speed with
      odometer := (odometerStage s).speed.odometer, remainder := (odometerStage s).speed.remainder } := by
  unfold odometerStage
  split <;> rfl

/-! ### Stage 7: the band monitors -/

theorem requestBand_speed (m : Monitor) (s : State) : (requestBand m s).speed = s.speed :=
  requestBand_changes m s .speed (by decide)

theorem evaluateMonitor_speed (i : Fin 4) (s : State) :
    (evaluateMonitor i s).speed = { s.speed with
      monitors := s.speed.monitors.set i
        { s.speed.monitors[i] with above := s.speed.monitors[i].after s.speed.vRef } } := by
  have report (e : TripEvent) (f : NoticeFlag) (u : State) : (appendEvent e (raiseFlag f u)).speed = u.speed :=
    ((raiseFlag_changes f u).trans (appendEvent_changes e _)) .speed (by decide)
  unfold evaluateMonitor
  dsimp only
  split
  · rw [requestBand_speed, report]
    rfl
  · rfl

/-- Stage 7 leaves every monitor with its setting and its new state, and nothing else of the speed unit changed (R39). -/
theorem monitorStage_speed (s : State) :
    (monitorStage s).speed = { s.speed with
      monitors := s.speed.monitors.map fun m => { m with above := m.after s.speed.vRef } } := by
  have monitors : (monitorStage s).speed.monitors =
      s.speed.monitors.map fun m => { m with above := m.after s.speed.vRef } := by
    unfold monitorStage
    simp only [evaluateMonitor_speed]
    ext i hi : 1
    match i, hi with
    | 0, _ => simp
    | 1, _ => simp
    | 2, _ => simp
    | 3, _ => simp
  rw [← monitors]
  simp only [monitorStage, evaluateMonitor_speed]

end Sys2Proof.Machine
end

section
/-!
PROOF. The rows that write the speed unit or the request lines without writing configuration, and with them O12.
-/

namespace Sys2Proof.Machine

/-- Two speed units with the same pulse length and monitor settings (R41). -/
def SameSpeedSettings (x y : SpeedUnit) : Prop :=
  y.pulseLength = x.pulseLength ∧ ∀ i : Fin 4, y.monitors[i].threshold = x.monitors[i].threshold ∧
    y.monitors[i].edge = x.monitors[i].edge ∧ y.monitors[i].pattern = x.monitors[i].pattern

/-- What changes parts without configuration and the speed unit within its settings leaves the configuration as it is. -/
theorem Changes.sameConfiguration_speed {a : List Part} {s t : State} (h : Changes a s t)
    (settings : SameSpeedSettings s.speed t.speed)
    (out : ∀ p ∈ [Part.lines, .patterns, .vigilanceSetting, .levels, .identity], p ∉ a) : SameConfiguration s t := by
  have lines : t.stop.lines = s.stop.lines := h .lines (out _ (by decide))
  exact {
    identity := h .identity (out _ (by decide))
    pulseLength := settings.1
    monitors := settings.2
    inputMap := fun n => by simp only [lines, and_self]
    patterns := h .patterns (out _ (by decide))
    vigilance := h .vigilanceSetting (out _ (by decide))
    levels := h .levels (out _ (by decide)) }

theorem referenceStage_settings (s : State) :
    (referenceStage s).speed.pulseLength = s.speed.pulseLength ∧
      (referenceStage s).speed.monitors = s.speed.monitors := by
  cases h : chooseReference s.speed.axles s.shaper.prev with
  | none => simp [referenceStage_none h]
  | some c => simp [referenceStage_some h]

/-- The period update of the speed unit keeps the pulse length and the monitor settings. -/
theorem speedUpdate_settings (closed : PerAxle Bool) (s : State) :
    SameSpeedSettings s.speed (speedUpdate closed s).speed := by
  have pulse : (speedUpdate closed s).speed.pulseLength = s.speed.pulseLength := by
    rw [speedUpdate, monitorStage_speed, odometerStage_speed, standstillStage_speed]
    show (referenceStage (healthStage (readAxles closed s))).speed.pulseLength = _
    rw [(referenceStage_settings _).1, healthStage_speed]
    rfl
  have monitors : (odometerStage (standstillStage (referenceStage (healthStage (readAxles closed s))))).speed.monitors =
      s.speed.monitors := by
    rw [odometerStage_speed, standstillStage_speed]
    show (referenceStage (healthStage (readAxles closed s))).speed.monitors = _
    rw [(referenceStage_settings _).2, healthStage_speed]
    rfl
  refine ⟨pulse, fun i => ?_⟩
  rw [speedUpdate, monitorStage_speed, monitors]
  simp

theorem speedUpdate_sameConfiguration (closed : PerAxle Bool) (s : State) :
    SameConfiguration s (speedUpdate closed s) :=
  (speedUpdate_changes closed s).sameConfiguration_speed (speedUpdate_settings closed s) (by decide)

theorem beginPeriod_changes (closed : PerAxle Bool) (s : State) : Changes [.pins, .clock] s (beginPeriod closed s) := by
  intro p hp
  cases p <;> first | exact absurd (by decide) hp | (repeat' constructor)

theorem armLine_changes (s : State) : Changes (.armed :: sourced) s (armLine s) := by
  unfold armLine
  exact Changes.ite (Changes.refl _ _) ((Changes.comp (Changes.ite (Changes.refl _ _)
    ((setSource_changes .loop s).mono (by decide))) ((withArmed_changes true _).mono (by decide))))

/-- The parts the other units' share of a period update touches before the shaper computes (log 12). -/
def followed : List Part := [.armed, .vigilance, .choices, .pulses, .mirror, .bellItem, .record, .consist, .exchange, .ladder,
  .latch, .channels, .stopState, .heldPriority, .pendingItems, .table, .queues, .port .ca, .port .cb, .events, .flags, .owed]

theorem afterUpdate_changes (s : State) : Changes followed s (afterUpdate s) :=
  (((((armLine_changes s).trans (testVigilance_changes _)).trans (junctionPeriod_changes _)).trans
    (testDeparture_changes _)).trans (severedPeriod_changes _)).mono (by decide)

theorem periodUpdate_sameConfiguration (closed : PerAxle Bool) (s : State) :
    SameConfiguration s (shaperPeriod (afterUpdate (speedUpdate closed (beginPeriod closed s)))) :=
  (((beginPeriod_changes closed s).sameConfiguration (by decide)).trans (speedUpdate_sameConfiguration closed _)).trans
    (((afterUpdate_changes _).trans (shaperPeriod_changes _)).sameConfiguration (by decide))

theorem applyHealth_sameConfiguration (h : PerAxle Health) (s : State) : SameConfiguration s (applyHealth h s) :=
  (applyHealth_changes h s).sameConfiguration_speed (by rw [applyHealth_speed]; exact ⟨rfl, fun _ => ⟨rfl, rfl, rfl⟩⟩)
    (by decide)

theorem endRun_sameConfiguration (c : Axle) (b : Bool) (h : Health) (s : State) :
    SameConfiguration s (endRun c b h s) := by
  unfold endRun
  split
  · exact applyHealth_sameConfiguration _ s
  · exact SameConfiguration.refl s

/-- The speed unit replaced within its settings. -/
theorem withSpeed_sameConfiguration (x : SpeedUnit) (s : State) (h : SameSpeedSettings s.speed x) :
    SameConfiguration s (s.withSpeed x) :=
  (withSpeed_changes x s).sameConfiguration_speed h (by decide)

/-! ### The request lines -/

/-- A line replaced by one of the same class and door keeps the input map. -/
theorem setLine_sameConfiguration (n : Fin 32) (l : RequestLine) (s : State)
    (map : l.cls = s.stop.lines[n].cls ∧ l.door = s.stop.lines[n].door) : SameConfiguration s (setLine n l s) where
  identity := ⟨rfl, rfl, rfl⟩
  pulseLength := rfl
  monitors _ := ⟨rfl, rfl, rfl⟩
  inputMap m := by
    by_cases h : n.val = m.val
    · obtain rfl : n = m := Fin.ext h
      simpa [setLine] using map
    · simp [setLine, Vector.getElem_set_ne _ _ h]
  patterns := rfl
  vigilance := ⟨rfl, rfl⟩
  levels := rfl

/-- A sample keeps the class and the door of its line (R140). -/
theorem sample_map (active : Bool) (l : RequestLine) :
    (l.sample active).1.cls = l.cls ∧ (l.sample active).1.door = l.door := by
  unfold RequestLine.sample
  split
  · exact ⟨rfl, rfl⟩
  · split
    case h_3 | h_5 | h_8 => split <;> exact ⟨rfl, rfl⟩
    all_goals exact ⟨rfl, rfl⟩

theorem pressLine_sameConfiguration (n : Fin 32) (s : State) : SameConfiguration s (pressLine n s) :=
  (pressLine_changes n s).sameConfiguration (by decide)

theorem stickLine_sameConfiguration (n : Fin 32) (s : State) : SameConfiguration s (stickLine n s) :=
  (appendEvent_changes _ s).sameConfiguration (by decide)

theorem sampleLine_sameConfiguration (active : Bool) (n : Fin 32) (s : State) :
    SameConfiguration s (sampleLine active n s) := by
  have line := setLine_sameConfiguration n _ s (sample_map active s.stop.lines[n])
  unfold sampleLine
  dsimp only
  split
  · exact line
  · exact line.trans (pressLine_sameConfiguration n _)
  · exact line.trans (stickLine_sameConfiguration n _)

theorem sampleLines_sameConfiguration (samples : BitVec 32) (l : List (Fin 32)) (s : State) :
    SameConfiguration s (sampleLines samples l s) := by
  induction l generalizing s with
  | nil => exact SameConfiguration.refl s
  | cons n ns ih => exact (sampleLine_sameConfiguration _ n s).trans (ih _)

theorem lineReset_sameConfiguration (s : State) : SameConfiguration s (lineResetState s) :=
  ⟨⟨rfl, rfl, rfl⟩, rfl, fun i => by simp [lineResetState, SpeedUnit.reset, clearMonitors],
    fun n => by simp [lineResetState, StopUnit.reset, clearLines], rfl, ⟨rfl, rfl⟩, rfl⟩

/-! ### Every row but the items of CONFIGURE and the power-on reset -/

/-- Settles O12: a command by what its owner touches, an event by what its effect touches; the rows that write the speed unit
or the request lines write no setting there. -/
theorem onlyConfigureWritesConfiguration : Obligations.OnlyConfigureWritesConfiguration := by
  intro i s t row run
  cases i with
  | configureVehicleNumber | configureRank | configureLength | configurePulseLength | configureInputMapLine
  | configurePatternHead | configurePatternSteps | configureVigilanceAction | configureSourceLevel
  | configureBandMonitor | powerOnReset => cases row
  | claim p => exact serve_keeps (fromEnd_changes p _ _ decideClaim_changes) run (by decide)
  | release p => exact serve_keeps (fromEnd_changes p _ _ decideRelease_changes) run (by decide)
  | emergencyReset p => exact serve_keeps (fromEnd_changes p _ _ decideReset_changes) run (by decide)
  | doorRelease p => exact serve_keeps (fromEnd_changes p _ _ decideDoorRelease_changes) run (by decide)
  | doorClose p => exact serve_keeps (fromEnd_changes p _ _ decideDoorClose_changes) run (by decide)
  | assistAck p => exact serve_keeps (fromEnd_changes p _ _ decideAssistAck_changes) run (by decide)
  | selectLeg p => exact serve_keeps (fromEnd_changes p _ _ decideSelectLeg_changes) run (by decide)
  | cancelLeg p => exact serve_keeps (fromEnd_changes p _ _ decideCancelLeg_changes) run (by decide)
  | permit p => exact serve_keeps (fromEnd_changes p _ _ decidePermit_changes) run (by decide)
  | enquirePoint p => exact serve_keeps (fromEnd_changes p _ _ decideEnquire_changes) run (by decide)
  | planAppend p => exact serve_keeps decidePlanAppend_changes run (by decide)
  | planClear p => exact serve_keeps (fun _ u => withPlan_changes [] u) run (by decide)
  | readEvent p => exact serve_keeps decideReadEvent_changes run (by decide)
  | applyEmergency p => exact serve_keeps decideApplyEmergency_changes run (by decide)
  | releaseCommandSource p => exact serve_keeps decideReleaseCommand_changes run (by decide)
  | sendTelegram p => exact serve_keeps decideSendTelegram_changes run (by decide)
  | stable p => exact serve_keeps decideStable_changes run (by decide)
  | wake p => exact serve_keeps decideWake_changes run (by decide)
  | soundTest p => exact serve_keeps decideSoundTest_changes run (by decide)
  | clearFlags p => exact serve_keeps decideClearFlags_changes run (by decide)
  | setNoticeMask p => exact serve_keeps decideSetMask_changes run (by decide)
  | forceFlags p => exact serve_keeps decideForceFlags_changes run (by decide)
  | unknownKind p => exact serve_keeps (fun _ u => Changes.refl [] u) run (by decide)
  | configureUnknownItemType p => exact serve_keeps (fun _ u => Changes.refl [] u) run (by decide)
  | commandArrival p kind tag payload =>
    have h := refreshLink_changes p s
    exact (Changes.ite ((h.trans (arrive_changes p ⟨kind, tag, payload⟩ _)).mono (b := .port p :: .port p :: reported)
      (by simp [reported])) (h.mono (by simp [reported]))).keeps run
      (configParts_port p _ (configParts_port p _ (by decide)))
  | cabState e lever deadman ack bell horn =>
    exact ((refreshLink_changes (endPort e) s).trans (takeCabState_changes e _ _)).keeps run
      (configParts_port _ _ (by decide))
  | vehicleState ceiling priorityClass quiet derate =>
    exact ((refreshLink_changes .vl s).trans (takeVehicleState_changes _ _ _ _ _)).keeps run (by decide)
  | consistPage coupler tag payload =>
    have h := (refreshLink_changes .kl s).mono (b := .port .kl :: paged) (by decide)
    cases payload with
    | nil => exact (h.comp ((raiseFlag_changes .checkErr _).mono (by decide))).keeps run (by decide)
    | cons head rest =>
      exact (h.comp ((takePage_changes coupler tag head _ _).mono (by decide))).keeps run (by decide)
  | badFrame p => exact (raiseFlag_changes _ s).keeps run (by decide)
  | frameDiscarded p malformed =>
    have h := refreshLink_changes p s
    exact (Changes.ite (h.comp ((raiseFlag_changes (checkFlag p) _).mono (by simp [reported]))) h).keeps run
      (configParts_port p _ (by decide))
  | silenceTimerExpires p =>
    exact (Changes.ite (loseLink_changes p s) (Changes.refl _ _)).keeps run (configParts_port p _ (by decide))
  | transmitEntryLeaves p =>
    have drop : Changes [.port p, .port .vl, .owed, .choices] s (dropHead p s) := (setPort_changes p _ s).mono (by simp)
    exact (Changes.ite (Changes.refl _ _) (drop.comp (giveRoom_changes p _))).keeps run
      (configParts_port p _ (by decide))
  | cabDisplayDue e =>
    exact ((Changes.ite (pushTx_changes (endPort e) _ s) (Changes.refl _ _)).comp
      (setPort_changes (endPort e) _ _)).keeps run (configParts_port _ _ (by decide))
  | vehicleReportDue =>
    exact ((Changes.ite (pushTx_changes .vl _ s) (Changes.refl _ _)).comp (setPort_changes .vl _ _)).keeps run
      (by decide)
  | consistFrameDue =>
    exact ((Changes.ite ((pushTx_changes .kl _ s).trans (emptyForward_changes _)) (Changes.refl _ _)).trans
      (setPort_changes .kl _ _)).keeps run (by decide)
  | keyOff e =>
    exact (Changes.ite ((withPins_changes _ s).trans (keyGoesOff_changes e _)) (Changes.refl _ _)).keeps run (by decide)
  | keyOn e =>
    exact (Changes.ite (Changes.refl _ _) ((withPins_changes _ s).trans (tryWake_changes (.key e) _))).keeps run
      (by decide)
  | doorLoopOpens =>
    have pins := withPins_changes { s.pins with doorClosed := false } s
    exact (Changes.ite (Changes.ite (pins.trans (tryWake_changes .doorLoop _))
      ((pins.trans (reportOpening_changes _)).mono (by decide))) (Changes.refl _ _)).keeps run (by decide)
  | doorLoopCloses =>
    exact (Changes.ite (Changes.refl _ _) ((withPins_changes _ s).trans (testDeparture_changes _))).keeps run (by decide)
  | passengerLoopOpens =>
    have pins := withPins_changes { s.pins with passengerClosed := false } s
    exact (Changes.ite (Changes.ite (pins.trans (tryWake_changes .passengerLoop _))
      ((pins.trans (setSource_changes .loop _)).mono (by decide))) (Changes.refl _ _)).keeps run (by decide)
  | passengerLoopCloses => exact (withPins_changes _ s).keeps run (by decide)
  | axlePulse c =>
    refine SameConfiguration.of_done ?_ run
    exact withSpeed_sameConfiguration _ s ⟨rfl, fun _ => ⟨rfl, rfl, rfl⟩⟩
  | lineReset => exact (lineReset_sameConfiguration s).of_done run
  | periodUpdate closed => exact (periodUpdate_sameConfiguration closed s).of_done run
  | zeroRunFault c => exact (endRun_sameConfiguration c _ _ s).of_done run
  | openRunFault c => exact (endRun_sameConfiguration c _ _ s).of_done run
  | recoveryRunComplete c => exact (endRun_sameConfiguration c _ _ s).of_done run
  | standstillBegins =>
    refine SameConfiguration.of_done ?_ run
    split
    · exact withSpeed_sameConfiguration _ s ⟨rfl, fun _ => ⟨rfl, rfl, rfl⟩⟩
    · exact SameConfiguration.refl s
  | calmRunComplete => exact (Changes.ite (withShaper_changes _ s) (Changes.refl _ _)).keeps run (by decide)
  | adhesionBackToGrip => exact (Changes.ite (withShaper_changes _ s) (Changes.refl _ _)).keeps run (by decide)
  | slipHistoryEntryExpires =>
    exact (Changes.ite ((withShaper_changes _ s).trans (countHistory_changes _)) (Changes.refl _ _)).keeps run
      (by decide)
  | dwellRunsDown => exact (Changes.ite (withShaper_changes _ s) (Changes.refl _ _)).keeps run (by decide)
  | parkTimerExpires => exact (parkExpires_changes s).keeps run (by decide)
  | intentTimerExpires =>
    refine Changes.keeps (a := authorised) ?_ run (by decide)
    split
    · exact endClaim_changes _ _ s
    all_goals exact Changes.refl _ _
  | settleTimerExpires => exact (Changes.ite (stepDown_changes s) (Changes.refl _ _)).keeps run (by decide)
  | timeTimerExpires =>
    exact (Changes.ite ((setVigil_changes _ s).trans (requestWarn_changes _)) (Changes.refl _ _)).keeps run (by decide)
  | graceTimerExpires =>
    refine Changes.keeps (a := .vigilance :: sourced) ?_ run (by decide)
    split
    · exact Changes.ite (enterPenalty_changes s) (Changes.refl _ _)
    all_goals exact Changes.refl _ _
  | warningTimerExpires =>
    refine Changes.keeps (a := .vigilance :: sourced) ?_ run (by decide)
    split
    · exact Changes.ite (enterPenalty_changes s) (Changes.refl _ _)
    all_goals exact Changes.refl _ _
  | reportTimerExpires junction =>
    exact (onRecord_changes junction _ _ _ s fun x => noReport_changes x s).keeps run (by decide)
  | reRequestTimerExpires junction =>
    exact (onRecord_changes junction _ _ _ s fun x => reRequest_changes x s).keeps run (by decide)
  | holdTimerExpires => exact (setEnquiry_changes _ s).keeps run (by decide)
  | pointReachedByDistance junction =>
    exact (onRecord_changes junction _ _ _ s fun x => enterPoint_changes x s).keeps run (by decide)
  | overflowReachedByDistance => exact (overflowReached_changes s).keeps run (by decide)
  | junctionPassed junction =>
    exact (onRecord_changes junction _ _ _ s fun x => passRecord_changes x s).keeps run (by decide)
  | departureCompletes => exact (testDeparture_changes s).keeps run (by decide)
  | requestMarker junction =>
    exact (receive_changes _ _ planned s (whereActed_changes _ _ s (requestMarker_changes junction s))
      (by decide)).keeps run (by decide)
  | entryMarker junction =>
    exact (receive_changes _ _ entering s (whereActed_changes _ _ s (entryMarker_changes junction s))
      (by decide)).keeps run (by decide)
  | signalMarker crossing nearSide =>
    exact (receive_changes _ _ _ s (whereActed_changes _ _ s (signalMarker_changes crossing nearSide s))
      (by decide)).keeps run (by decide)
  | markerCheckFailed => exact (receive_changes _ id reported s (Changes.refl _ _) (by decide)).keeps run (by decide)
  | pointReport junction position lock =>
    exact (receive_changes _ _ _ s (takeReport_changes junction position lock s) (by decide)).keeps run (by decide)
  | priorityAck crossing vehicle =>
    exact (receive_changes _ _ _ s (Changes.ite (takeAck_changes crossing s) (Changes.refl _ _)) (by decide)).keeps run
      (by decide)
  | telegramDiscarded failed =>
    exact (receive_changes _ id reported s (Changes.refl _ _) (by decide)).keeps run (by decide)
  | txDone =>
    exact (Changes.ite ((withQueues_changes { s.wayside with sending := none } s ⟨rfl, rfl, rfl⟩).trans
      (arbitrate_changes _)) (Changes.refl _ _)).keeps run (by decide)
  | samplingTimerExpires samples =>
    have begun : Changes [.pins, .clock] s
        ((s.withPins { s.pins with requests := samples }).withClock { s.clock with sampling := samplingPeriod }) := by
      intro p hp
      cases p <;> first | exact absurd (by decide) hp | (repeat' constructor)
    exact ((begun.sameConfiguration (by decide)).trans (sampleLines_sameConfiguration samples _ _)).of_done run
  | stopRequestPress line =>
    refine SameConfiguration.of_done ?_ run
    split
    · exact (setLine_sameConfiguration line s.stop.lines[line].pressed s ⟨rfl, rfl⟩).trans (pressLine_sameConfiguration line _)
    · exact SameConfiguration.refl s
  | buttonStuck line =>
    refine SameConfiguration.of_done ?_ run
    split
    · exact (setLine_sameConfiguration line s.stop.lines[line].stick s ⟨rfl, rfl⟩).trans (stickLine_sameConfiguration line _)
    · exact SameConfiguration.refl s
  | stuckLineFreed line =>
    refine SameConfiguration.of_done ?_ run
    split
    · exact setLine_sameConfiguration line _ s ⟨rfl, rfl⟩
    · exact SameConfiguration.refl s
  | autoOpenPulseExpires door => exact (withPulses_changes _ s).keeps run (by decide)
  | partnerTimerExpires => exact (Changes.ite (partnerLost_changes s) (Changes.refl _ _)).keeps run (by decide)
  | soundStepExpires k => exact (advanceSound_changes _ s).keeps run (by decide)
  | hornOnTimeLimit =>
    exact (Changes.ite (Changes.refl _ _) (withForcedOff_changes _ s)).keeps run (by decide)
  | forcedOffTimerExpires =>
    exact (Changes.ite (withForcedOff_changes none s) (Changes.refl _ _)).keeps run (by decide)

end Sys2Proof.Machine
end

section
/-!
PROOF. The channels that the rules pick among: the healthy ones, the fastest and the slowest; and the end of an event that
moved no odometer.
-/

namespace Sys2Proof.Machine

/-! ### Picking a channel (R34, R35, R60) -/

theorem isHealthy_iff {x : AxleChannel} : x.isHealthy = true ↔ ∃ z o, x.health = .healthy z o := by
  unfold AxleChannel.isHealthy
  split <;> simp_all

theorem mem_healthyAxles {axles : PerAxle AxleChannel} {c : Axle} :
    c ∈ healthyAxles axles ↔ (axleGet axles c).isHealthy = true := by
  have : c ∈ allAxles := by cases c <;> decide
  simp [healthyAxles, axlesWhere, this]

theorem mem_healthyM {axles : PerAxle AxleChannel} {c : Axle} :
    c ∈ healthyM axles ↔ (c = .m1 ∨ c = .m2) ∧ c ∈ healthyAxles axles := by
  cases c <;> simp [healthyM, isT]

/-- In the order of the channels (section 2.1), `c` stands before `o` or is `o`. -/
def standsBefore (c o : Axle) : Prop := axleCode c ≤ axleCode o

theorem healthyAxles_ordered (axles : PerAxle AxleChannel) : (healthyAxles axles).Pairwise standsBefore :=
  List.Pairwise.filter _ (by unfold standsBefore; decide)

/-- The channel of a list with the largest key, the first of equals: what `fastest` and `slowest` share. -/
def pickLargest (key : Axle → Int) : List Axle → Option Axle
  | [] => none
  | c :: cs => some ((pickLargest key cs).elim c fun o => if key c < key o then o else c)

theorem fastest_eq (axles : PerAxle AxleChannel) (l : List Axle) :
    fastest axles l = pickLargest (fun c => (axleGet axles c).speed) l := by
  induction l with
  | nil => rfl
  | cons c cs ih =>
    simp only [fastest, pickLargest, ih]
    cases pickLargest _ cs <;> simp [apply_ite some]

theorem slowest_eq (axles : PerAxle AxleChannel) (l : List Axle) :
    slowest axles l = pickLargest (fun c => -((axleGet axles c).speed : Int)) l := by
  induction l with
  | nil => rfl
  | cons c cs ih =>
    simp only [slowest, pickLargest, ih]
    cases pickLargest _ cs <;> simp [apply_ite some]

/-- Of a list in order: none where it is empty, else one whose key no other exceeds, the first of equals. -/
theorem pickLargest_cases (key : Axle → Int) (l : List Axle) (order : l.Pairwise standsBefore) :
    (l = [] ∧ pickLargest key l = none) ∨ ∃ c ∈ l, pickLargest key l = some c ∧
      ∀ o ∈ l, key o < key c ∨ (key o = key c ∧ standsBefore c o) := by
  induction l with
  | nil => exact .inl ⟨rfl, rfl⟩
  | cons c cs ih =>
    right
    obtain ⟨first, order⟩ := List.pairwise_cons.mp order
    have self : standsBefore c c := Nat.le_refl _
    rcases ih order with ⟨rfl, none⟩ | ⟨d, hd, some, best⟩
    · exact ⟨c, by simp, by simp [pickLargest], by simp [self]⟩
    · by_cases less : key c < key d
      · refine ⟨d, by simp [hd], by simp [pickLargest, some, less], fun o ho => ?_⟩
        rcases List.mem_cons.mp ho with rfl | ho
        · exact .inl less
        · exact best o ho
      · refine ⟨c, by simp, by simp [pickLargest, some, less], fun o ho => ?_⟩
        rcases List.mem_cons.mp ho with rfl | ho
        · exact .inr ⟨rfl, self⟩
        · have := first o ho
          rcases best o ho with h | ⟨h, -⟩ <;> by_cases e : key o = key c
          · exact .inr ⟨e, this⟩
          · left; omega
          · exact .inr ⟨e, this⟩
          · left; omega

/-- The fastest of a list in order (R34, R35). -/
theorem fastest_cases (axles : PerAxle AxleChannel) (l : List Axle) (order : l.Pairwise standsBefore) :
    (l = [] ∧ fastest axles l = none) ∨ ∃ c ∈ l, fastest axles l = some c ∧
      ∀ o ∈ l, (axleGet axles o).speed < (axleGet axles c).speed ∨
        ((axleGet axles o).speed = (axleGet axles c).speed ∧ standsBefore c o) := by
  have := pickLargest_cases (fun c => (axleGet axles c).speed) l order
  rw [← fastest_eq] at this
  simpa only [Int.ofNat_lt, Int.natCast_inj] using this

/-- The slowest of a list in order (R34). -/
theorem slowest_cases (axles : PerAxle AxleChannel) (l : List Axle) (order : l.Pairwise standsBefore) :
    (l = [] ∧ slowest axles l = none) ∨ ∃ c ∈ l, slowest axles l = some c ∧
      ∀ o ∈ l, (axleGet axles c).speed < (axleGet axles o).speed ∨
        ((axleGet axles o).speed = (axleGet axles c).speed ∧ standsBefore c o) := by
  have := pickLargest_cases (fun c => -((axleGet axles c).speed : Int)) l order
  rw [← slowest_eq] at this
  simpa only [Int.neg_lt_neg_iff, Int.neg_inj, Int.ofNat_lt, Int.natCast_inj] using this

theorem healthyM_ordered (axles : PerAxle AxleChannel) : (healthyM axles).Pairwise standsBefore :=
  (healthyAxles_ordered axles).filter _

/-- The slip difference stays below a bound exactly where every channel it may read does: the healthy motored ones in traction,
the healthy ones in braking (R60). -/
theorem slipDifference_lt {s : State} {k : Nat} (pos : 0 < k) :
    slipDifference s < k ↔
      (0 < s.shaper.prev → ∀ c, (c = .m1 ∨ c = .m2) → c ∈ healthyAxles s.speed.axles →
        (axleGet s.speed.axles c).speed < s.speed.vRef + k) ∧
      (s.shaper.prev < 0 → ∀ c, c ∈ healthyAxles s.speed.axles →
        s.speed.vRef < (axleGet s.speed.axles c).speed + k) := by
  unfold slipDifference
  by_cases traction : 0 < s.shaper.prev
  · have braking : ¬ s.shaper.prev < 0 := by omega
    simp only [traction, braking, if_true, true_imp_iff, false_imp_iff, and_true]
    rcases fastest_cases s.speed.axles _ (healthyM_ordered s.speed.axles) with ⟨empty, h⟩ | ⟨c, hc, h, best⟩
    · have none : ∀ c, (c = .m1 ∨ c = .m2) → c ∈ healthyAxles s.speed.axles → False := fun c motored healthy => by
        simpa [empty] using mem_healthyM.mpr ⟨motored, healthy⟩
      simp only [h, show (0 : Int) < k by omega, true_iff]
      exact fun c motored healthy => (none c motored healthy).elim
    · simp only [h]
      constructor
      · intro bound o motored healthy
        have := best o (mem_healthyM.mpr ⟨motored, healthy⟩)
        omega
      · intro all
        have := all c (mem_healthyM.mp hc).1 (mem_healthyM.mp hc).2
        omega
  · simp only [traction, if_false, false_imp_iff, true_and]
    by_cases braking : s.shaper.prev < 0
    · simp only [braking, if_true, true_imp_iff]
      rcases slowest_cases s.speed.axles _ (healthyAxles_ordered s.speed.axles) with ⟨empty, h⟩ | ⟨c, hc, h, best⟩
      · simp only [h]
        simp [empty, pos]
      · simp only [h]
        constructor
        · intro bound o healthy
          have := best o healthy
          omega
        · intro all
          have := all c hc
          omega
    · simp only [braking, if_false, false_imp_iff, iff_true]
      omega

/-! ### The end of an event that moved no odometer -/

/-- The warning condition reads the odometer and nothing else of the speed unit (R104, R105). -/
theorem warnWanted_odometer {s : State} {x : SpeedUnit} (odo : x.odometer = s.speed.odometer) :
    warnWanted (s.withSpeed x) = warnWanted s := by
  simp only [warnWanted, warningCondition, State.withSpeed_junction, State.withSpeed_speed, odo]
  rfl

/-- A settled state in which the speed unit moved without its odometer, beside parts that nothing reads, stays settled where no
NOTICE is owed with room for it. -/
theorem Settled.of_odometer {s t : State} (hs : Settled s) (h : Changes (.speed :: unread) s t)
    (odo : t.speed.odometer = s.speed.odometer) (notice : (t.vl.owed && txRoom .vl t) = false) : Settled t := by
  have back : Changes unread s (t.withSpeed s.speed) := by
    intro p hp
    by_cases speed : p = .speed
    · subst speed
      rfl
    · exact Part.same_trans (h p (by simp [speed, hp])) (withSpeed_changes s.speed t p (by simpa using speed))
  have r := (hs.of_unread back notice).rests
  refine Rests.settled ⟨?_, notice, r.horn, r.outputs⟩
  have := r.warn
  rwa [warnWanted_odometer odo.symm] at this

/-- An event that moves the speed unit without its odometer, and parts that the end of an event does not read. -/
theorem Happens.of_odometer {i : Instr} {s : State} {parts : List Part} {effect : State → Prop} (u : State)
    (run : exec i s = done u) (changes : Changes parts s u) (quiet : ∀ q ∈ parts, q ∈ Part.speed :: unread)
    (odo : u.speed.odometer = s.speed.odometer) (owed : Part.owed ∉ parts) (vl : Part.port .vl ∉ parts)
    (effects : effect u) : Happens i s parts effect := by
  intro settled
  have h1 : u.vl.owed = s.vl.owed := changes .owed owed
  have h2 : u.port .vl = s.port .vl := changes (.port .vl) vl
  have hu : settle u = u := settled.of_odometer (changes.mono quiet) odo (by
    have := settled.rests.notice
    simpa only [txRoom, h1, h2] using this)
  exact ⟨u, by rw [run]; exact congrArg Host.Outcome.next hu, Or.inl h2, changes, effects⟩

/-- An event that leaves the state as it is. -/
theorem Happens.of_still {i : Instr} {s : State} (run : exec i s = done s) : Happens i s [] fun _ => True :=
  .of_quiet s run (Changes.refl _ _) (by simp) (by simp) (by simp) trivial

end Sys2Proof.Machine
end

section
/-!
PROOF. The counts of the period update that reach their ends (O50): standstill, the calm run, the cap, the slip history and the
dwell.
-/

namespace Sys2Proof.Machine

theorem isStabled_true_iff {s : State} : s.isStabled = true ↔ ∃ n, s.auth.record = .stabled n := by
  unfold State.isStabled
  split <;> simp_all

theorem isStabled_false_iff {s : State} : s.isStabled = false ↔ ∀ n, s.auth.record ≠ .stabled n := by
  simpa using not_congr (isStabled_true_iff (s := s))

/-- The O_prev a computation starts from (R59, R74). -/
theorem startingDemand_eq (s : State) :
    startingDemand s = if s.shaper.released = true ∧ s.emerg.recorded = 0 then -100 else s.shaper.prev := by
  simp [startingDemand, State.holding]

/-- The demand hand-over keeps the divisor where the new target does not exceed it (R81, R82). -/
theorem handDemands_within {d : Demands} {s : State} (h : d.target ≤ s.emerg.divisor) :
    handDemands d s = s.withEmerg { s.emerg with
      demands := d, settle := settleAfter s.emerg.demands.target d.target s.emerg.divisor s.emerg.settle } := by
  unfold handDemands
  rw [if_neg (by omega)]

/-- Withdrawing a demand does not raise the target (section 4.6). -/
theorem target_withoutAdhesion (d : Demands) : Demands.target { d with adhesion := none } ≤ d.target := by
  simp only [Demands.target, demandValue, Option.getD_none]
  omega

/-- The history row where it raises no demand: the ADHESION demand goes below three entries, the divisor stays (R64). -/
theorem countHistory_withdraws {s : State} (sound : s.emerg.demands.target ≤ s.emerg.divisor)
    (low : s.shaper.history.length < 3 ∨ s.emerg.demands.adhesion ≠ none) :
    (countHistory s).shaper = s.shaper ∧ (countHistory s).emerg.divisor = s.emerg.divisor ∧
      (countHistory s).emerg.demands =
        (if s.shaper.history.length < 3 then { s.emerg.demands with adhesion := none } else s.emerg.demands) ∧
      Changes [.ladder] s (countHistory s) := by
  by_cases few : s.shaper.history.length < 3
  · by_cases absent : s.emerg.demands.adhesion = none
    · have still : countHistory s = s := by
        unfold countHistory
        rw [if_neg (by simp [slipCount]; omega), if_neg (by simp [absent])]
      have same : { s.emerg.demands with adhesion := none } = s.emerg.demands := by rw [← absent]
      rw [still, if_pos few, same]
      exact ⟨rfl, rfl, rfl, Changes.refl _ _⟩
    · have withdrawn : countHistory s = handDemands { s.emerg.demands with adhesion := none } s := by
        unfold countHistory
        rw [if_neg (by simp [slipCount]; omega), if_pos ⟨few, absent⟩]
      rw [withdrawn, handDemands_within ((target_withoutAdhesion _).trans sound), if_pos few]
      exact ⟨rfl, rfl, rfl, withLadder_changes _ s.emerg.divisor _ s⟩
  · have present : s.emerg.demands.adhesion ≠ none := low.resolve_left few
    have still : countHistory s = s := by
      unfold countHistory
      rw [if_neg (by simp [present]), if_neg (by simp [slipCount, few])]
    rw [still, if_neg few]
    exact ⟨rfl, rfl, rfl, Changes.refl _ _⟩

/-- The row's test of a difference, in the terms of R60: below a bound for every channel the difference may read. -/
theorem differenceNow_lt {s : State} {k : Nat} (pos : 0 < k) :
    let prev : Int := if s.shaper.released = true ∧ s.emerg.recorded = 0 then -100 else s.shaper.prev
    differenceNow s < k ↔
      (0 < prev → ∀ c, (c = .m1 ∨ c = .m2) → c ∈ healthyAxles s.speed.axles →
        (axleGet s.speed.axles c).speed < s.speed.vRef + k) ∧
      (prev < 0 → ∀ c, c ∈ healthyAxles s.speed.axles → s.speed.vRef < (axleGet s.speed.axles c).speed + k) := by
  intro prev
  have start : (startComputation s).shaper.prev = prev := startingDemand_eq s
  have := slipDifference_lt (s := startComputation s) pos
  rw [start] at this
  exact this

theorem standstillBegins_row {s : State} (ref : s.speed.reference ≠ none) (low : s.speed.vRef < 5)
    (run : 24 ≤ s.speed.lowRun) :
    Happens .standstillBegins s [.speed] fun t => t.speed = { s.speed with lowRun := 25, standstill := true } := by
  refine .of_odometer (lowPeriod s) ?_ (withSpeed_changes _ s) (by decide) rfl (by decide) (by decide) ?_
  · have : s.speed.reference.isSome ∧ s.speed.vRef < 5 ∧ standstillRun ≤ s.speed.lowRun + 1 :=
      ⟨Option.isSome_iff_ne_none.mpr ref, low, by unfold standstillRun; omega⟩
    exact congrArg done (if_pos this)
  · have : 25 ≤ s.speed.lowRun + 1 := by omega
    simp [lowPeriod, standstillRun, this]

theorem slipHistory_row {s : State} (old : ∃ age ∈ s.shaper.history, 249 ≤ age) (sound : LadderSound s)
    (quiet : (s.shaper.history.filter fun age => decide (age < 249)).length < 3 ∨ s.emerg.demands.adhesion ≠ none) :
    let left := s.shaper.history.filter fun age => decide (age < 249)
    Happens .slipHistoryEntryExpires s [.shaper, .ladder] fun t =>
      t.shaper = { s.shaper with history := left } ∧ t.emerg.divisor = s.emerg.divisor ∧
      t.emerg.demands = (if left.length < 3 then { s.emerg.demands with adhesion := none } else s.emerg.demands) := by
  intro left
  have dropped : dropOld s = s.withShaper { s.shaper with history := left } := by
    have (age : Nat) : decide (age + 1 < historyAge) = decide (age < 249) :=
      decide_eq_decide.mpr (by unfold historyAge; omega)
    simp [dropOld, this, left]
  have expires : (s.shaper.history.any fun age => decide (historyAge ≤ age + 1)) = true := by
    obtain ⟨age, member, reached⟩ := old
    exact List.any_eq_true.mpr ⟨age, member, decide_eq_true (by unfold historyAge; omega)⟩
  obtain ⟨shaper, divisor, demands, changes⟩ :=
    countHistory_withdraws (s := s.withShaper { s.shaper with history := left }) sound.target quiet
  refine .of_quiet (countHistory (dropOld s)) (congrArg done (if_pos expires)) ?_ (by decide) (by decide) (by decide) ?_
  · rw [dropped]
    exact (withShaper_changes _ s).trans changes
  · rw [dropped]
    exact ⟨shaper, divisor, demands⟩

/-- Settles O50, count by count; the tests of the calm run and of GRIP are those of the slip difference (`differenceNow_lt`). -/
theorem periodCountRows : Obligations.PeriodCountRows := by
  intro s awake prev healthy motored v detected calm
  have calmIff : calm ↔ differenceNow s < (5 : Nat) := (differenceNow_lt (by decide)).symm
  have detectedIff : ¬ detected ↔ differenceNow s < (16 : Nat) := by
    have := differenceNow_lt (s := s) (k := 16) (by decide)
    refine Iff.trans ?_ this.symm
    simp only [detected, motored, healthy, v, not_or, not_and, not_exists, not_lt, Nat.lt_succ_iff, prev]
  refine ⟨fun ref low run => standstillBegins_row ref low run, ?_, ?_, ?_, ?_, ?_,
    fun old sound quiet => slipHistory_row old sound quiet, ?_⟩
  · intro stabled i row
    have gate : ¬ s.isStabled = false := by simp [isStabled_true_iff.mpr stabled]
    simp only [List.mem_cons, List.not_mem_nil, or_false] at row
    rcases row with rfl | rfl | rfl <;> exact .of_still (congrArg done (if_neg fun h => gate h.1))
  · intro notCalm
    exact .of_still (congrArg done (if_neg fun h => notCalm (calmIff.mpr h.2.2.1)))
  · intro seen
    refine .of_still (congrArg done (if_neg fun h => detectedIff.mpr ?_ seen))
    have := h.2.2.1
    omega
  · intro awake slip quiet run
    refine .of_quiet (calmComplete s) (congrArg done (if_pos ⟨isStabled_false_iff.mpr awake, slip, calmIff.mp quiet, ?_⟩))
      (withShaper_changes _ s) (by decide) (by decide) (by decide) rfl
    unfold calmRun
    omega
  · intro awake recover clear cap
    have := detectedIff.mp clear
    exact .of_quiet (backToGrip s)
      (congrArg done (if_pos ⟨isStabled_false_iff.mpr awake, recover, by omega, by omega⟩))
      (withShaper_changes _ s) (by decide) (by decide) (by decide) rfl
  · intro awake dwell
    exact .of_quiet _ (congrArg done (if_pos ⟨isStabled_false_iff.mpr awake, dwell⟩))
      (withShaper_changes _ s) (by decide) (by decide) (by decide) rfl

end Sys2Proof.Machine
end

section
/-!
PROOF. Trip events and flags: what an append and a raise leave, and how they add up to `Logged`.
-/

namespace Sys2Proof.Machine

/-! ### Flags and trip events (R207, R209) -/

theorem getLsbD_bitMask (n : Nat) {i : Nat} (hi : i < 16) : (bitMask n).getLsbD i = decide (n = i) := by
  simp only [bitMask, BitVec.getLsbD_shiftLeft, BitVec.getLsbD_one, hi, decide_true, Bool.true_and]
  rw [Bool.eq_iff_iff]
  simp
  omega

/-- A bit that is set is not changed by its mask. -/
theorem or_bitMask_of_set {w : Word16} {n : Nat} (h : w.getLsbD n = true) : w ||| bitMask n = w := by
  refine BitVec.eq_of_getLsbD_eq fun i hi => ?_
  by_cases e : n = i
  · subst e
    simp [h]
  · simp [getLsbD_bitMask n hi, e]

/-- The set of a list of flags holds the bits of its flags. -/
theorem getLsbD_flagSet (fs : List NoticeFlag) {i : Nat} (hi : i < 16) :
    (flagSet fs).getLsbD i = fs.any fun f => decide (f.bit = i) := by
  have from_word (w : Word16) : (fs.foldl (fun w f => w ||| bitMask f.bit) w).getLsbD i =
      (w.getLsbD i || fs.any fun f => decide (f.bit = i)) := by
    induction fs generalizing w with
    | nil => simp
    | cons f fs ih => rw [List.foldl_cons, ih]; simp [getLsbD_bitMask _ hi, Bool.or_assoc]
  simpa [flagSet] using from_word 0

theorem raiseFlag_flags (f : NoticeFlag) (s : State) : (raiseFlag f s).vl.flags = s.vl.flags ||| bitMask f.bit := by
  unfold raiseFlag raiseBit
  split
  next h => exact (or_bitMask_of_set h).symm
  next => rfl

theorem raiseFlag_events (f : NoticeFlag) (s : State) : (raiseFlag f s).vl.events = s.vl.events :=
  raiseFlag_changes f s .events (by decide)

@[simp] theorem raiseFlag_emerg (f : NoticeFlag) (s : State) : (raiseFlag f s).emerg = s.emerg := by
  unfold raiseFlag raiseBit
  split <;> rfl

@[simp] theorem appendEvent_emerg (e : TripEvent) (s : State) : (appendEvent e s).emerg = s.emerg := by
  unfold appendEvent
  split <;> simp

theorem appendEvent_events (e : TripEvent) (s : State) : (appendEvent e s).vl.events = logEntry s s.vl.events e := by
  unfold appendEvent logEntry eventPlaces
  split <;> simp only [raiseFlag_events, State.withVl_vl]

theorem appendEvent_flags (e : TripEvent) (s : State) :
    (appendEvent e s).vl.flags = s.vl.flags ||| flagSet (eventFlags [e] s) := by
  unfold appendEvent eventPlaces
  split
  · have : ¬ 32 < s.vl.events.length + 1 := by omega
    simp [raiseFlag_flags, eventFlags, flagSet, this]
  · have : 32 < s.vl.events.length + 1 := by omega
    simp [raiseFlag_flags, eventFlags, flagSet, this, BitVec.or_assoc]

/-- The queue after a list of appends: it grows up to 32 entries (R207). -/
theorem foldl_logEntry_length (s : State) (evs : List TripEvent) (q : List EventEntry) :
    (evs.foldl (logEntry s) q).length = max q.length (min 32 (q.length + evs.length)) := by
  induction evs generalizing q with
  | nil => simp
  | cons e es ih =>
    rw [List.foldl_cons, ih]
    unfold logEntry
    split <;> simp <;> omega

/-! ### `Logged`, step by step -/

theorem Logged.none {s t : State} (events : t.vl.events = s.vl.events) (flags : t.vl.flags = s.vl.flags) :
    Logged [] [] s t := ⟨events, by simp [flags, flagSet, eventFlags]⟩

/-- What follows without an event or a flag. -/
theorem Logged.then {evs : List TripEvent} {more : List NoticeFlag} {s t u : State} (h : Logged evs more s t)
    (events : u.vl.events = t.vl.events) (flags : u.vl.flags = t.vl.flags) : Logged evs more s u :=
  ⟨events.trans h.events, flags.trans h.flags⟩

/-- One more event, at the same time and odometer. -/
theorem Logged.append {evs : List TripEvent} {more : List NoticeFlag} {s t : State} (h : Logged evs more s t)
    (time : t.clock.ms = s.clock.ms) (odo : t.speed.odometer = s.speed.odometer) (e : TripEvent) :
    Logged (evs ++ [e]) more s (appendEvent e t) where
  events := by
    have : logEntry t = logEntry s := by
      unfold logEntry
      rw [time, odo]
    rw [appendEvent_events, h.events, this, List.foldl_append]
    rfl
  flags := by
    have full : 32 < t.vl.events.length + 1 ↔ 32 < s.vl.events.length + evs.length + 1 := by
      rw [h.events, foldl_logEntry_length]
      omega
    rw [appendEvent_flags, h.flags]
    refine BitVec.eq_of_getLsbD_eq fun i hi => ?_
    simp only [BitVec.getLsbD_or, getLsbD_flagSet _ hi, eventFlags, List.length_append, List.length_singleton,
      ← Nat.add_assoc, full]
    by_cases empty : evs = []
    · simp [empty, Bool.or_assoc]
    · by_cases filled : 32 < s.vl.events.length + evs.length
      · simp [empty, filled, show 32 < s.vl.events.length + evs.length + 1 by omega]
        grind
      · simp [empty, filled]
        grind

/-- One more flag. -/
theorem Logged.raise {evs : List TripEvent} {more : List NoticeFlag} {s t : State} (h : Logged evs more s t)
    (f : NoticeFlag) : Logged evs (more ++ [f]) s (raiseFlag f t) where
  events := (raiseFlag_events f t).trans h.events
  flags := by
    rw [raiseFlag_flags, h.flags]
    refine BitVec.eq_of_getLsbD_eq fun i hi => ?_
    simp only [BitVec.getLsbD_or, getLsbD_flagSet _ hi, getLsbD_bitMask _ hi, List.any_append, List.any_cons, List.any_nil]
    grind

/-- A change of the divisor reports it and raises DERATE (R83). -/
theorem Logged.changeDivisor {evs : List TripEvent} {more : List NoticeFlag} {s t : State} (h : Logged evs more s t)
    (time : t.clock.ms = s.clock.ms) (odo : t.speed.odometer = s.speed.odometer) (d : Nat) :
    Logged (evs ++ [.derate d]) (more ++ [.derate]) s (changeDivisor d t) := by
  have base : Logged evs more s (t.withEmerg { t.emerg with divisor := d }) := h.then rfl rfl
  exact (base.append time odo (.derate d)).raise .derate

end Sys2Proof.Machine
end

section
/-!
PROOF. The health of the axle channels (O49): when the tests of stage 3 end a run, and what a change of health brings.
-/

namespace Sys2Proof.Machine

/-! ### The tests of stage 3 (R28 to R31) -/

theorem zeroMet_iff {axles : PerAxle AxleChannel} {c : Axle} :
    zeroMet axles c = true ↔
      (axleGet axles c).speed = 0 ∧ ∃ o ∈ healthyAxles axles, o ≠ c ∧ 50 ≤ (axleGet axles o).speed := by
  have all (o : Axle) : o ∈ allAxles := by cases o <;> decide
  simp only [zeroMet, Bool.and_eq_true, decide_eq_true_eq, List.any_eq_true, mem_healthyAxles]
  exact and_congr_right fun _ => exists_congr fun o => by simp [all o]; tauto

theorem agree_iff {x y : Nat} : agree x y = true ↔ x ≤ y + 20 ∧ y ≤ x + 20 := by
  simp [agree, agreement, Nat.add_comm]

theorem recoveryMet_iff {axles : PerAxle AxleChannel} {vRef : Nat} {c : Axle} :
    recoveryMet axles vRef c = true ↔ (axleGet axles c).closed = true ∧
      ((healthyAxles axles ≠ [] ∧ (axleGet axles c).speed ≤ vRef + 20 ∧ vRef ≤ (axleGet axles c).speed + 20) ∨
        (healthyAxles axles = [] ∧ ∃ o, o ≠ c ∧ (axleGet axles o).closed = true ∧
          (axleGet axles o).speed ≤ (axleGet axles c).speed + 20 ∧
          (axleGet axles c).speed ≤ (axleGet axles o).speed + 20)) := by
  have all (o : Axle) : o ∈ allAxles := by cases o <;> decide
  unfold recoveryMet
  by_cases none : healthyAxles axles = []
  · simp [none, all, agree_iff, and_assoc]
  · simp [none, agree_iff]

/-- A healthy channel faults with cause OPEN where its line stays open and its run has reached 19 (R29). -/
theorem nextHealth_open_iff {axles : PerAxle AxleChannel} {vRef : Nat} {c : Axle} {z o : Nat}
    (h : (axleGet axles c).health = .healthy z o) :
    nextHealth axles vRef c = .faulted .open 0 ↔ (axleGet axles c).closed = false ∧ 19 ≤ o := by
  unfold nextHealth
  rw [h]
  dsimp only [faultRun]
  cases (axleGet axles c).closed
  · by_cases ends : 19 ≤ o
    · simp [ends]
    · simp only [Bool.false_eq_true, if_false, if_neg (show ¬ 20 ≤ o + 1 by omega), ends, and_false, iff_false]
      (repeat' split) <;> simp
  · simp only [if_true, if_neg (show ¬ 20 ≤ 0 by omega), Bool.true_eq_false, false_and, iff_false]
    (repeat' split) <;> simp

/-- A healthy channel faults with cause ZERO where the zero test is met, its run has reached 19, and its open run does not end
(R28, R29). -/
theorem nextHealth_zero_iff {axles : PerAxle AxleChannel} {vRef : Nat} {c : Axle} {z o : Nat}
    (h : (axleGet axles c).health = .healthy z o) :
    nextHealth axles vRef c = .faulted .zero 0 ↔
      zeroMet axles c = true ∧ 19 ≤ z ∧ ¬ ((axleGet axles c).closed = false ∧ 19 ≤ o) := by
  constructor
  · intro faults
    obtain ⟨met, run, other⟩ := nextHealth_zero h faults
    refine ⟨met, run, fun opens => ?_⟩
    rw [(nextHealth_open_iff h).mpr opens] at faults
    cases faults
  · rintro ⟨met, run, notOpen⟩
    have lineHolds : ¬ 20 ≤ if (axleGet axles c).closed = true then 0 else o + 1 := by
      split
      · omega
      · rename_i isOpen
        have := mt (And.intro (by simpa using isOpen)) notOpen
        omega
    unfold nextHealth
    rw [h]
    simp only [faultRun, met, if_true, if_neg lineHolds, if_pos (show 20 ≤ z + 1 by omega)]

/-- A faulted channel heals where its recovery test is met and its run has reached 249 (R30, R31). -/
theorem nextHealth_healthy_iff {axles : PerAxle AxleChannel} {vRef : Nat} {c : Axle} {cause : FaultCause} {r : Nat}
    (h : (axleGet axles c).health = .faulted cause r) :
    nextHealth axles vRef c = .healthy 0 0 ↔ recoveryMet axles vRef c = true ∧ 249 ≤ r := by
  unfold nextHealth
  rw [h]
  dsimp only [recoveryRun]
  cases recoveryMet axles vRef c
  · simp
  · by_cases ends : 249 ≤ r
    · simp [ends]
    · simp [ends]

/-! ### A change of health (R32, R33) -/

theorem reportFault_same {b : Health} {c : Axle} {s : State} (h : (axleGet s.speed.axles c).health = b) :
    reportFault b c s = s := by
  subst h
  unfold reportFault
  split <;> simp_all

theorem reportHealthy_same {b : Health} {c : Axle} {s : State} (h : (axleGet s.speed.axles c).health = b) :
    reportHealthy b c s = s := by
  subst h
  unfold reportHealthy
  split <;> simp_all

theorem reportFault_speed (b : Health) (c : Axle) (s : State) : (reportFault b c s).speed = s.speed :=
  reportFault_changes b c s .speed (by decide)

theorem reportHealthy_speed (b : Health) (c : Axle) (s : State) : (reportHealthy b c s).speed = s.speed :=
  reportHealthy_changes b c s .speed (by decide)

/-- Where one channel's health changed, its reports are all there are. -/
theorem reportHealth_one {old : PerAxle Health} {s : State} {c : Axle}
    (others : ∀ d, d ≠ c → (axleGet s.speed.axles d).health = axleGet old d) :
    reportHealth old s = reportHealthy (axleGet old c) c (reportFault (axleGet old c) c s) := by
  have faults : allAxles.foldl (fun acc d => reportFault (axleGet old d) d acc) s = reportFault (axleGet old c) c s := by
    cases c <;> simp [allAxles, reportFault_same, reportFault_speed, others]
  unfold reportHealth
  rw [faults]
  cases c <;> simp [allAxles, reportHealthy_same, reportHealthy_speed, reportFault_speed, others]

/-- The SENSOR and REFERENCE demands that a set of healthy channels asks for (R32). -/
def demandsOf (healthy : List Axle) : Option Nat × Option Nat :=
  (if healthy.length = 4 then none else if healthy.length = 3 then some 2 else some 4,
    if healthy.length ≤ 2 ∧ Axle.t1 ∉ healthy ∧ Axle.t2 ∉ healthy then some 8 else none)

/-- The demands held on the ladder with those of the health of the channels replaced (R32). -/
def Demands.ofHealth (d : Demands) (healthy : List Axle) : Demands :=
  { d with sensor := (demandsOf healthy).1, reference := (demandsOf healthy).2 }

theorem healthyAxles_length (axles : PerAxle AxleChannel) : (healthyAxles axles).length ≤ 4 :=
  List.length_filter_le (fun c => (axleGet axles c).isHealthy) allAxles

theorem healthDemands_eq (axles : PerAxle AxleChannel) : healthDemands axles = demandsOf (healthyAxles axles) := by
  have bound := healthyAxles_length axles
  have t1 : Axle.t1 ∈ healthyAxles axles ↔ axles.t1.isHealthy = true := mem_healthyAxles
  have t2 : Axle.t2 ∈ healthyAxles axles ↔ axles.t2.isHealthy = true := mem_healthyAxles
  unfold healthDemands demandsOf
  split
  next h => simp [h]
  next h => simp [h]
  next four three =>
    have low : (healthyAxles axles).length ≤ 2 := by
      have : (healthyAxles axles).length ≠ 4 := four
      have : (healthyAxles axles).length ≠ 3 := three
      omega
    rw [if_neg four, if_neg three]
    simp only [low, t1, t2, true_and]
    cases axles.t1.isHealthy <;> cases axles.t2.isHealthy <;> rfl

/-- The hand-over leaves the demands, and a divisor not below their target (R80, R81). -/
theorem handIfChanged_emerg (d : Demands) {s : State} (sound : s.emerg.demands.target ≤ s.emerg.divisor) :
    (handIfChanged d s).emerg.demands = d ∧ (handIfChanged d s).emerg.divisor = max s.emerg.divisor d.target := by
  unfold handIfChanged
  split
  next same =>
    subst same
    exact ⟨rfl, by omega⟩
  next =>
    by_cases rises : s.emerg.divisor < d.target
    · unfold handDemands changeDivisor
      rw [if_pos rises]
      exact ⟨by simp, by simp; omega⟩
    · rw [handDemands_within (by omega)]
      exact ⟨rfl, by show s.emerg.divisor = _; omega⟩

/-- The hand-over reports DERATE where the divisor rises, and nothing else (R81, R83). -/
theorem handIfChanged_logged (d : Demands) {r s : State} (sound : s.emerg.demands.target ≤ s.emerg.divisor)
    {evs : List TripEvent} {more : List NoticeFlag} (log : Logged evs more r s) (time : s.clock.ms = r.clock.ms)
    (odo : s.speed.odometer = r.speed.odometer) :
    if s.emerg.divisor < d.target
      then Logged (evs ++ [.derate d.target]) (more ++ [.derate]) r (handIfChanged d s)
      else Logged evs more r (handIfChanged d s) := by
  unfold handIfChanged
  split
  next rises =>
    rw [if_neg (by rintro rfl; omega)]
    unfold handDemands
    rw [if_pos rises]
    refine Logged.changeDivisor ?_ ?_ ?_ d.target
    · exact log.then rfl rfl
    · exact time
    · exact odo
  next stays =>
    split
    · exact log
    · rw [handDemands_within (by omega)]
      exact log.then rfl rfl

/-- What the change of channel `c` to health `h` leaves, with `event` as its report (R32, R33). -/
structure HealthChanged (c : Axle) (h : Health) (event : TripEvent) (s t : State) : Prop where
  speed : t.speed = { s.speed with axles := axleSet s.speed.axles c { axleGet s.speed.axles c with health := h } }
  demands : t.emerg.demands = s.emerg.demands.ofHealth (healthyAxles t.speed.axles)
  divisor : t.emerg.divisor = max s.emerg.divisor t.emerg.demands.target
  last : healthyAxles t.speed.axles = [] → t.emerg.recorded.getLsbD 6 = true
  latch : healthyAxles t.speed.axles ≠ [] → t.emerg.recorded = s.emerg.recorded
  logged : healthyAxles t.speed.axles ≠ [] →
    if s.emerg.divisor < t.emerg.demands.target
      then Logged [event, .derate t.emerg.demands.target] [.derate] s t else Logged [event] [] s t

/-- `event` is what stage 3 reports of a channel that goes from health `b` to health `h` (R32). -/
def reportsChange (c : Axle) (b h : Health) (event : TripEvent) : Prop :=
  match b, h with
  | .healthy _ _, .faulted cause _ => event = .channelFaulted c cause
  | .faulted _ _, .healthy _ _ => event = .channelHealthy c
  | _, _ => False

theorem setSource_recorded (src : EmergencySource) (s : State) :
    (setSource src s).emerg.recorded.getLsbD src.bit = true := by
  have bit : src.bit < 16 := by cases src <;> decide
  have sound (k : Speaker) (x : SoundSource) (n : Fin 16) (b : Bool) (u : State) :
      (requestSound k x n b u).emerg = u.emerg := by
    unfold requestSound
    split <;> rfl
  unfold setSource
  split
  · simp [sound, getLsbD_bitMask _ bit]
  · split
    next has => exact has
    next => simp [getLsbD_bitMask _ bit]

theorem reportHealth_event {c : Axle} {b : Health} {event : TripEvent} {s : State}
    (report : reportsChange c b (axleGet s.speed.axles c).health event) :
    reportHealthy b c (reportFault b c s) = appendEvent event s := by
  cases b <;> cases h : (axleGet s.speed.axles c).health <;> simp only [reportsChange, h] at report
  · subst report
    simp [reportFault, reportHealthy, h]
  · subst report
    simp [reportFault, reportHealthy, h]

/-- The channel with its new health, before anything follows from it. -/
def withHealth (c : Axle) (h : Health) (s : State) : State :=
  s.withSpeed { s.speed with axles := axleSet s.speed.axles c { axleGet s.speed.axles c with health := h } }

theorem axleGet_withHealth_same (c : Axle) (h : Health) (s : State) :
    axleGet (withHealth c h s).speed.axles c = { axleGet s.speed.axles c with health := h } :=
  axleGet_axleSet_same _ _ _

/-- A change of health, step by step: the channel, its report, the hand-over, and SPEED once no channel is healthy. -/
theorem changeHealth_steps {c : Axle} {h : Health} {event : TripEvent} {s : State}
    (report : reportsChange c (axleGet s.speed.axles c).health h event) :
    let t := handHealth (appendEvent event (withHealth c h s))
    changeHealth c h s = if healthyAxles s.speed.axles ≠ [] ∧ healthyAxles (withHealth c h s).speed.axles = []
      then setSource .speed t else t := by
  intro t
  have write : writeHealth (axleSet (healthOf s.speed.axles) c h) s = withHealth c h s := by cases c <;> rfl
  have old (d : Axle) : axleGet (healthOf s.speed.axles) d = (axleGet s.speed.axles d).health := by cases d <;> rfl
  have reported : reportHealth (healthOf s.speed.axles) (withHealth c h s) = appendEvent event (withHealth c h s) := by
    rw [reportHealth_one (c := c), old]
    · refine reportHealth_event ?_
      rw [axleGet_withHealth_same]
      exact report
    · intro d hd
      rw [old]
      exact congrArg AxleChannel.health (axleGet_axleSet_other _ _ _ _ hd)
  have speed : t.speed = (withHealth c h s).speed :=
    ((appendEvent_changes event _).trans (handHealth_changes _)) .speed (by decide)
  unfold changeHealth applyHealth
  rw [write, reported]
  simp only [show handHealth (appendEvent event (withHealth c h s)) = t from rfl, speed, Bool.and_eq_true,
    Bool.not_eq_true', List.isEmpty_eq_false_iff, List.isEmpty_iff]

theorem changeHealth_changed {c : Axle} {h : Health} {event : TripEvent} {s : State} (sound : LadderSound s)
    (report : reportsChange c (axleGet s.speed.axles c).health h event)
    (last : healthyAxles (withHealth c h s).speed.axles = [] → healthyAxles s.speed.axles ≠ []) :
    HealthChanged c h event s (changeHealth c h s) := by
  have steps := changeHealth_steps report
  have reported := appendEvent_changes event (withHealth c h s)
  have time : (appendEvent event (withHealth c h s)).clock.ms = s.clock.ms := (reported .clock (by decide) : _ ∧ _).1
  have speed : (appendEvent event (withHealth c h s)).speed = (withHealth c h s).speed := reported .speed (by decide)
  have emerg : (appendEvent event (withHealth c h s)).emerg = s.emerg := appendEvent_emerg _ _
  have log : Logged [event] [] s (appendEvent event (withHealth c h s)) :=
    (Logged.none (s := s) (t := withHealth c h s) rfl rfl).append rfl rfl event
  have target : (appendEvent event (withHealth c h s)).emerg.demands.target ≤
      (appendEvent event (withHealth c h s)).emerg.divisor := by
    rw [emerg]
    exact sound.target
  have handed := handIfChanged_emerg (s.emerg.demands.ofHealth (healthyAxles (withHealth c h s).speed.axles)) target
  have logged := handIfChanged_logged (s.emerg.demands.ofHealth (healthyAxles (withHealth c h s).speed.axles)) target
    log time (by rw [speed]; rfl)
  have hand : handHealth (appendEvent event (withHealth c h s)) =
      handIfChanged (s.emerg.demands.ofHealth (healthyAxles (withHealth c h s).speed.axles))
        (appendEvent event (withHealth c h s)) := by
    rw [handHealth, emerg, speed, healthDemands_eq]
    rfl
  have kept := handHealth_changes (appendEvent event (withHealth c h s))
  rw [← hand, emerg] at handed logged
  obtain ⟨demands, divisor⟩ := handed
  have speed' : (handHealth (appendEvent event (withHealth c h s))).speed = (withHealth c h s).speed :=
    (kept .speed (by decide)).trans speed
  have latch : (handHealth (appendEvent event (withHealth c h s))).emerg.recorded = s.emerg.recorded := by
    rw [← emerg]
    exact (kept .latch (by decide) : _ ∧ _).1
  dsimp only at steps
  generalize handHealth (appendEvent event (withHealth c h s)) = t at *
  rw [steps]
  split
  next cond =>
    have set := setSource_changes .speed t
    have sets : (setSource .speed t).speed = t.speed := set .speed (by decide)
    have ladder : _ ∧ _ ∧ _ := set .ladder (by decide)
    refine ⟨sets.trans speed', ?_, ?_, fun _ => setSource_recorded .speed t, ?_, ?_⟩
    · rw [ladder.2.1, demands, sets, speed']
    · rw [ladder.1, divisor, ladder.2.1, demands]
    all_goals rw [sets, speed']; exact fun some => absurd cond.2 some
  next cond =>
    refine ⟨speed', by rw [demands, speed'], by rw [divisor, demands], ?_, fun _ => latch, fun _ => ?_⟩
    · rw [speed']
      exact fun none => absurd ⟨last none, none⟩ cond
    · rw [demands]
      exact logged

/-- The end of the event leaves what the change of health left. -/
theorem HealthChanged.ended {c : Axle} {h : Health} {event : TripEvent} {s t u : State} (k : HealthChanged c h event s t)
    (e : Changes (.owed :: .port .vl :: closing) t u) : HealthChanged c h event s u := by
  have speed : u.speed = t.speed := e .speed (by decide)
  have ladder : _ ∧ _ ∧ _ := e .ladder (by decide)
  have latch : _ ∧ _ := e .latch (by decide)
  have events : u.vl.events = t.vl.events := e .events (by decide)
  have flags : u.vl.flags = t.vl.flags := e .flags (by decide)
  refine ⟨speed.trans k.speed, ?_, ?_, ?_, ?_, ?_⟩
  · rw [ladder.2.1, speed, k.demands]
  · rw [ladder.1, ladder.2.1, k.divisor]
  · rw [speed, latch.1]
    exact k.last
  · rw [speed, latch.1]
    exact k.latch
  · rw [speed, ladder.2.1]
    intro some
    have logged := k.logged some
    split at logged
    next rises => rw [if_pos rises]; exact logged.then events flags
    next stays => rw [if_neg stays]; exact logged.then events flags

theorem changeHealth_changes (c : Axle) (h : Health) (s : State) : Changes healed s (changeHealth c h s) :=
  applyHealth_changes _ s

/-- While a channel is healthy after it, a change of health sets no emergency source. -/
theorem changeHealth_keepsLatch {c : Axle} {h : Health} {event : TripEvent} {s : State}
    (report : reportsChange c (axleGet s.speed.axles c).health h event)
    (some : healthyAxles (withHealth c h s).speed.axles ≠ []) :
    Changes (.speed :: derated) s (changeHealth c h s) := by
  rw [changeHealth_steps report, if_neg fun cond => some cond.2]
  exact (((withSpeed_changes _ s).trans (appendEvent_changes event _)).trans (handHealth_changes _)).mono (by decide)

/-- A row that changes the health of a channel: its frame and its effect. -/
theorem changeHealth_happens {i : Instr} {c : Axle} {h : Health} {event : TripEvent} {s : State} {parts : List Part}
    (run : exec i s = done (changeHealth c h s)) (sound : LadderSound s)
    (report : reportsChange c (axleGet s.speed.axles c).health h event)
    (last : healthyAxles (withHealth c h s).speed.axles = [] → healthyAxles s.speed.axles ≠ [] ∧ .latch ∈ parts) :
    Happens i s (parts ++ [.speed, .ladder] ++ reporting ++ closing) (HealthChanged c h event s) := by
  refine .of_effect (changeHealth c h s) run (changeHealth_changes c h s (.port .vl) (by decide)) ?_
    (by simp [reporting, closing]) fun t e => (changeHealth_changed sound report fun none => (last none).1).ended e
  by_cases none : healthyAxles (withHealth c h s).speed.axles = []
  · exact (changeHealth_changes c h s).mono (by simp [healed, reporting, closing, (last none).2])
  · exact (changeHealth_keepsLatch report none).mono (by simp [derated, reporting, closing])

end Sys2Proof.Machine
end

section
/-!
PROOF. The rows of the channels' runs (O49).
-/

namespace Sys2Proof.Machine

theorem mem_healthyAxles_withHealth {c o : Axle} (h : Health) (s : State) (other : o ≠ c) :
    o ∈ healthyAxles (withHealth c h s).speed.axles ↔ o ∈ healthyAxles s.speed.axles := by
  have : axleGet (withHealth c h s).speed.axles o = axleGet s.speed.axles o := axleGet_axleSet_other _ _ _ _ other
  rw [mem_healthyAxles, mem_healthyAxles, this]

theorem healthyAxles_withHealth_healed (c : Axle) (z o : Nat) (s : State) :
    healthyAxles (withHealth c (.healthy z o) s).speed.axles ≠ [] := by
  refine List.ne_nil_of_mem (a := c) (mem_healthyAxles.mpr ?_)
  rw [axleGet_withHealth_same]
  rfl

/-- A run that ends, with the test of its row met. -/
theorem endRun_of {c : Axle} {b : Bool} {h : Health} {s : State} (was : (axleGet s.speed.axles c).isHealthy = b)
    (next : nextHealth s.speed.axles s.speed.vRef c = h) : endRun c b h s = changeHealth c h s :=
  if_pos ⟨was, next⟩

/-- The zero test leaves another channel healthy (R28). -/
theorem zeroTest_leaves {s : State} {c : Axle} (h : Health)
    (test : ∃ o ∈ healthyAxles s.speed.axles, o ≠ c ∧ 50 ≤ (axleGet s.speed.axles o).speed) :
    healthyAxles (withHealth c h s).speed.axles ≠ [] := by
  obtain ⟨o, healthy, other, -⟩ := test
  exact List.ne_nil_of_mem ((mem_healthyAxles_withHealth h s other).mpr healthy)

/-- ZERO_RUN_FAULT never faults the last healthy channel, nor sets a source (R28, R33). -/
theorem zeroRunFault_safe {c : Axle} {s t : State} (run : exec (.zeroRunFault c) s = .next t)
    (some : healthyAxles s.speed.axles ≠ []) :
    healthyAxles t.speed.axles ≠ [] ∧ t.emerg.recorded = s.emerg.recorded := by
  have ended : t = settle (endRun c true (.faulted .zero 0) s) := by
    cases run
    rfl
  have e := settle_changes (endRun c true (.faulted .zero 0) s)
  have speed : t.speed = (endRun c true (.faulted .zero 0) s).speed := by rw [ended]; exact e .speed (by decide)
  have latch : t.emerg.recorded = (endRun c true (.faulted .zero 0) s).emerg.recorded := by
    rw [ended]
    exact (e .latch (by decide) : _ ∧ _).1
  rw [speed, latch]
  rcases endRun_cases c true (.faulted .zero 0) s with still | ⟨was, next, moved⟩
  · rw [still]
    exact ⟨some, rfl⟩
  · obtain ⟨z, o, health⟩ := isHealthy_iff.mp was
    have left := zeroTest_leaves (.faulted .zero 0) (zeroMet_iff.mp ((nextHealth_zero_iff health).mp next).1).2
    have k := changeHealth_keepsLatch (event := .channelFaulted c .zero) (by rw [health]; rfl) left
    have after : (changeHealth c (.faulted .zero 0) s).speed = (withHealth c (.faulted .zero 0) s).speed :=
      (applyHealth_speed _ s).trans (by cases c <;> rfl)
    rw [moved, after]
    exact ⟨left, (k .latch (by decide) : _ ∧ _).1⟩

/-- Settles O49: each row by the test of stage 3 that ends its run, and the change of health that follows. -/
theorem channelHealthRows : Obligations.ChannelHealthRows := by
  intro c s sound before channel near zeroTest recovers still moves
  have met : zeroMet s.speed.axles c = true ↔ zeroTest := zeroMet_iff
  have recovery : recoveryMet s.speed.axles s.speed.vRef c = true ↔ recovers := recoveryMet_iff
  have stays {i : Instr} {b : Bool} {h : Health} (run : exec i s = done (endRun c b h s))
      (k : ¬ (before.isHealthy = b ∧ nextHealth s.speed.axles s.speed.vRef c = h)) : still i :=
    .of_still (run.trans (congrArg done (if_neg k)))
  have changes {i : Instr} {parts : List Part} {b : Bool} {h : Health} {event : TripEvent}
      (run : exec i s = done (endRun c b h s)) (was : before.isHealthy = b)
      (next : nextHealth s.speed.axles s.speed.vRef c = h) (report : reportsChange c before.health h event)
      (last : healthyAxles (withHealth c h s).speed.axles = [] →
        healthyAxles s.speed.axles ≠ [] ∧ .latch ∈ parts) : moves i parts h event := by
    have row := changeHealth_happens (run.trans (congrArg done (endRun_of was next))) sound report last
    intro settled
    obtain ⟨t, outcome, notice, frame, k⟩ := row settled
    refine ⟨t, outcome, notice, frame, k.speed, k.demands, k.divisor, ?_, ?_, ?_⟩
    · exact fun none => k.last (List.length_eq_zero_iff.mp none)
    · exact fun some => k.latch (mt List.length_eq_zero_iff.mpr some)
    · exact fun some => k.logged (mt List.length_eq_zero_iff.mpr some)
  refine ⟨fun z o health => ?_, fun cause r health => ?_, fun t run some => zeroRunFault_safe run some⟩
  · intro opens
    have healthy : before.isHealthy = true := isHealthy_iff.mpr ⟨z, o, health⟩
    have zeroIff := nextHealth_zero_iff (vRef := s.speed.vRef) health
    have openIff := nextHealth_open_iff (vRef := s.speed.vRef) health
    refine ⟨?_, ?_, ?_, ?_, ?_⟩
    · intro test run notOpen
      exact changes rfl healthy (zeroIff.mpr ⟨met.mpr test, run, notOpen⟩) (by rw [health]; rfl)
        fun none => absurd none (zeroTest_leaves _ test.2)
    · intro fails
      refine stays rfl fun k => ?_
      obtain ⟨test, run, notOpen⟩ := zeroIff.mp k.2
      rcases fails with noTest | short | isOpen
      · exact noTest (met.mp test)
      · omega
      · exact notOpen isOpen
    · intro isOpen
      exact changes rfl healthy (openIff.mpr isOpen) (by rw [health]; rfl)
        fun _ => ⟨List.ne_nil_of_mem (mem_healthyAxles.mpr healthy), by simp⟩
    · exact fun notOpen => stays rfl fun k => notOpen (openIff.mp k.2)
    · exact stays rfl fun k => by simp [healthy] at k
  · have faulted : before.isHealthy = false := by simp [AxleChannel.isHealthy, health]
    have healsIff := nextHealth_healthy_iff (vRef := s.speed.vRef) health
    refine ⟨?_, ?_, ?_, ?_⟩
    · intro test run
      exact changes rfl faulted (healsIff.mpr ⟨recovery.mpr test, run⟩) (by rw [health]; rfl)
        fun none => absurd none (healthyAxles_withHealth_healed c 0 0 s)
    · intro fails
      refine stays rfl fun k => ?_
      obtain ⟨test, run⟩ := healsIff.mp k.2
      rcases fails with noTest | short
      · exact noTest (recovery.mp test)
      · omega
    · exact stays rfl fun k => by simp [faulted] at k
    · exact stays rfl fun k => by simp [faulted] at k

end Sys2Proof.Machine
end

section
/-!
PROOF. CONFIGURE (O38): what taking an item amounts to in DARK at standstill, and then each item's own fields.
-/

namespace Sys2Proof.Machine

/-! ### A command that owes no NOTICE -/

/-- A row that takes a command and reports nothing: no NOTICE comes before the answer, and `finish` says how the event ends. -/
theorem Takes.of_unowed {p : Port} {c : Command} {i : Instr} {s : State} {answer : TxEntry} {parts : List Part}
    {effect : State → Prop} (u : State)
    (run : Offered p c s → exec i s = done (deliver p answer (flushNotice u)))
    (port : u.port p = { s.port p with commands := (s.port p).commands.tail })
    (changes : Changes (.port p :: parts) s u) (owed : Part.owed ∉ parts) (vl : Part.port .vl ∉ parts)
    (finish : ∀ v, Changes [.port p] u v → (v.vl.owed && txRoom .vl v) = false → Settled s →
      Changes (.port p :: parts) s (settle v) ∧ effect (settle v)) :
    Takes p c i s answer parts effect := by
  intro offered settled
  have hvl : p ≠ .vl → u.port .vl = s.port .vl := fun hp =>
    changes (.port .vl) (by simpa [vl] using fun h => hp h.symm)
  have howed : u.vl.owed = s.vl.owed := changes .owed (by simpa using owed)
  have hroom : txRoom .vl u = txRoom .vl s := by
    by_cases hp : p = .vl
    · subst hp
      simp [txRoom, port]
    · simp [txRoom, hvl hp]
  have quiet : (u.vl.owed && txRoom .vl u) = false := by rw [howed, hroom]; exact settled.rests.notice
  have room : (u.port p).transmit.length < 8 := by
    rw [port]
    show (s.port p).transmit.length < 8
    have := offered.room
    omega
  have run' := run offered
  rw [flushNotice_none quiet, deliver_room room] at run'
  have pushed : Changes [.port p] u (pushTx p answer u) := pushTx_changes p answer u
  have still := txRoom_false_push (p := p) (e := answer) quiet
  have ends : Changes closing (pushTx p answer u) (settle (pushTx p answer u)) := settle_noNotice still
  have atPort : (settle (pushTx p answer u)).port p =
      { s.port p with commands := (s.port p).commands.tail }.withEntry answer := by
    rw [ends (.port p) (by simp [closing]), pushTx_port, port]
  obtain ⟨frame, holds⟩ := finish _ pushed still settled
  refine ⟨_, run', ⟨by rw [atPort]; rfl, by rw [atPort]; exact .inl rfl, by rw [atPort]; exact ⟨rfl, rfl, rfl, rfl, rfl, rfl⟩,
    fun hp => .inl ?_⟩, frame, holds⟩
  rw [ends (.port .vl) (by decide), pushed (.port .vl) (by simpa using fun h => hp h.symm), hvl hp]

/-! ### Taking an item (R202, R205) -/

/-- The state in which the owner of a command at VL decides: the command has left the FIFO (R202). -/
def popped (s : State) : State := popCommand .vl (s.port .vl).commands.tail s

theorem popped_changes (s : State) : Changes [.port .vl] s (popped s) := popCommand_changes .vl _ s

/-- The items of CONFIGURE by their type byte: the row runs the item's own decision on the fields. -/
def RunsItem (i : Instr) (item : Byte) (take : List Byte → State → Reason ⊕ State) : Prop :=
  ∀ s, exec i s = done (serve .vl (ofItem item.toNat) (configure item.toNat take) s)

/-- The waiting command is a CONFIGURE with this item and fields, in a part that is DARK and stands still. -/
structure ConfigureAt (item : Byte) (fields : List Byte) (s : State) : Prop where
  dark : s.auth.record = .dark
  standstill : s.speed.standstill = true
  known : itemMatches item.toNat (fields.length + 1) = true
  size : 1 ≤ fields.length ∧ fields.length ≤ 10

/-- An item taken: the command is answered with the item type. -/
theorem configure_run {i : Instr} {item tag : Byte} {fields : List Byte} {take : List Byte → State → Reason ⊕ State}
    {s u : State} (row : RunsItem i item take) (at_ : ConfigureAt item fields s)
    (taken : take fields (popped s) = .inr u) (offered : Offered .vl ⟨0x26, tag, item :: fields⟩ s) :
    exec i s = done (deliver .vl (accepted ⟨0x26, tag, item :: fields⟩ [item]) (flushNotice u)) := by
  obtain ⟨dark, standstill, known, low, high⟩ := at_
  have reply : configure item.toNat take ⟨0x26, tag, item :: fields⟩ (popped s) = (.accept [item], u) := by
    have isDark : (popped s).isDark = true := by
      show decide (s.auth.record = .dark) = true
      simp [dark]
    have stands : (popped s).speed.standstill = true := standstill
    simp [configure, isDark, stands, taken, byteOf]
  rw [row, serve_reply (c := ⟨0x26, tag, item :: fields⟩) (r := (.accept [item], u)) ?_ ?_ (.inl ?_) reply offered]
  · rfl
  · simp [ofItem, ofKind, configureKind, itemOf, known]
  · simp [portRefusal, knownKind, inList, lengthMatches, low, show fields.length < 11 by omega]
  · exact isStabled_false_iff.mpr fun n => by simp [dark]

/-- An item that reports nothing. -/
theorem configure_takes {i : Instr} {item tag : Byte} {fields : List Byte} {take : List Byte → State → Reason ⊕ State}
    {s u : State} {parts : List Part} {effect : State → Prop} (row : RunsItem i item take)
    (at_ : ConfigureAt item fields s) (taken : take fields (popped s) = .inr u) (changes : Changes parts (popped s) u)
    (owed : Part.owed ∉ parts) (vl : Part.port .vl ∉ parts)
    (finish : ∀ v, Changes [.port .vl] u v → (v.vl.owed && txRoom .vl v) = false → Settled s →
      Changes (.port .vl :: parts) s (settle v) ∧ effect (settle v)) :
    Takes .vl ⟨0x26, tag, item :: fields⟩ i s (accepted ⟨0x26, tag, item :: fields⟩ [item]) parts effect :=
  .of_unowed u (configure_run row at_ taken)
    (by rw [changes (.port .vl) vl]; exact popCommand_port .vl _ s)
    (((popped_changes s).trans changes).mono (by simp)) owed vl finish

/-- An item within parts that the end of the event does not read, and the speed unit but for its odometer. -/
theorem configure_rests {i : Instr} {item tag : Byte} {fields : List Byte} {take : List Byte → State → Reason ⊕ State}
    {s u : State} {parts : List Part} {effect : State → Prop} (row : RunsItem i item take)
    (at_ : ConfigureAt item fields s) (taken : take fields (popped s) = .inr u) (changes : Changes parts (popped s) u)
    (quiet : ∀ q ∈ Part.owed :: .port .vl :: parts, q ∈ Part.speed :: unread) (owed : Part.owed ∉ parts)
    (vl : Part.port .vl ∉ parts) (odo : u.speed.odometer = s.speed.odometer)
    (effects : ∀ v, Changes [.port .vl] u v → effect v) :
    Takes .vl ⟨0x26, tag, item :: fields⟩ i s (accepted ⟨0x26, tag, item :: fields⟩ [item]) parts effect := by
  refine configure_takes row at_ taken changes owed vl fun v push still settled => ?_
  have frame : Changes (.port .vl :: parts) s v := ((popped_changes s).trans changes).mono (by simp) |>.comp (push.mono (by simp))
  have speed : v.speed = u.speed := push .speed (by decide)
  have ended : settle v = v := settled.of_odometer (frame.mono fun q hq => quiet q (List.mem_cons_of_mem _ hq))
    (by rw [speed, odo]) still
  rw [ended]
  exact ⟨frame, effects v push⟩

/-! ### Identity items (R206) and the pulse length (R41) -/

theorem fieldIn_some {lo hi : Nat} {b1 b0 : Byte} (low : lo ≤ (b1 ++ b0 : BitVec 16).toNat)
    (high : (b1 ++ b0 : BitVec 16).toNat ≤ hi) : fieldIn lo hi b1 b0 = some (b1 ++ b0 : BitVec 16).toNat :=
  if_pos ⟨low, high⟩

theorem withIdentity_changes (n r l : Nat) (s : State) :
    Changes [.identity] s (s.withVl { s.vl with vehicleNumber := n, rank := r, length := l }) := by
  intro p hp
  cases p <;> first | exact absurd (by decide) hp | (repeat' constructor)

section
variable (tag : Byte) {s : State} (dark : s.auth.record = .dark) (standstill : s.speed.standstill = true)
include dark standstill

theorem configureVehicleNumber_takes (b1 b0 : Byte) (low : 1 ≤ (b1 ++ b0 : BitVec 16).toNat)
    (high : (b1 ++ b0 : BitVec 16).toNat ≤ 9999) :
    Takes .vl ⟨0x26, tag, [1, b1, b0]⟩ (.configureVehicleNumber .vl) s (accepted ⟨0x26, tag, [1, b1, b0]⟩ [1]) [.identity]
      fun t => t.vl.vehicleNumber = (b1 ++ b0 : BitVec 16).toNat ∧ t.vl.rank = s.vl.rank ∧ t.vl.length = s.vl.length := by
  refine configure_rests (take := takeVehicleNumber) (fun _ => rfl) ⟨dark, standstill, rfl, by simp⟩
    (by simp only [takeVehicleNumber, fieldIn_some low high]; rfl)
    (withIdentity_changes _ s.vl.rank s.vl.length _) (by decide) (by decide) (by decide) rfl fun v push => ?_
  obtain ⟨number, rank, length⟩ : _ ∧ _ ∧ _ := push .identity (by decide)
  exact ⟨number, rank, length⟩

theorem configureLength_takes (b1 b0 : Byte) (low : 100 ≤ (b1 ++ b0 : BitVec 16).toNat)
    (high : (b1 ++ b0 : BitVec 16).toNat ≤ 600) :
    Takes .vl ⟨0x26, tag, [3, b1, b0]⟩ (.configureLength .vl) s (accepted ⟨0x26, tag, [3, b1, b0]⟩ [3]) [.identity]
      fun t => t.vl.length = (b1 ++ b0 : BitVec 16).toNat ∧ t.vl.rank = s.vl.rank ∧
        t.vl.vehicleNumber = s.vl.vehicleNumber := by
  refine configure_rests (take := takeLength) (fun _ => rfl) ⟨dark, standstill, rfl, by simp⟩
    (by simp only [takeLength, fieldIn_some low high]; rfl)
    (withIdentity_changes s.vl.vehicleNumber s.vl.rank _ _) (by decide) (by decide) (by decide) rfl fun v push => ?_
  obtain ⟨number, rank, length⟩ : _ ∧ _ ∧ _ := push .identity (by decide)
  exact ⟨length, rank, number⟩

theorem configureRank_takes (r : Byte) :
    Takes .vl ⟨0x26, tag, [2, r]⟩ (.configureRank .vl) s (accepted ⟨0x26, tag, [2, r]⟩ [2]) [.identity]
      fun t => t.vl.rank = r.toNat ∧ t.vl.vehicleNumber = s.vl.vehicleNumber ∧ t.vl.length = s.vl.length := by
  refine configure_rests (take := takeRank) (fun _ => rfl) ⟨dark, standstill, rfl, by simp⟩ rfl
    (withIdentity_changes s.vl.vehicleNumber _ s.vl.length _) (by decide) (by decide) (by decide) rfl fun v push => ?_
  obtain ⟨number, rank, length⟩ : _ ∧ _ ∧ _ := push .identity (by decide)
  exact ⟨rank, number, length⟩

theorem configurePulseLength_takes (b1 b0 : Byte) (low : 500 ≤ (b1 ++ b0 : BitVec 16).toNat)
    (high : (b1 ++ b0 : BitVec 16).toNat ≤ 5000) :
    Takes .vl ⟨0x26, tag, [4, b1, b0]⟩ (.configurePulseLength .vl) s (accepted ⟨0x26, tag, [4, b1, b0]⟩ [4]) [.speed]
      fun t => t.speed = { s.speed with pulseLength := (b1 ++ b0 : BitVec 16).toNat } :=
  configure_rests (take := takePulseLength)
    (u := (popped s).withSpeed { s.speed with pulseLength := (b1 ++ b0 : BitVec 16).toNat }) (fun _ => rfl) ⟨dark, standstill, rfl, by simp⟩
    (by simp only [takePulseLength, fieldIn_some low high]; rfl)
    (withSpeed_changes _ _) (by decide) (by decide) (by decide) rfl fun v push => push .speed (by decide)

/-! ### The input map (R139) -/

omit dark standstill in
theorem lineClassOf_listed {cls : Byte} (listed : cls.toNat ≤ 2) :
    lineClassOf cls = some (if cls = 0 then .off else if cls = 1 then .standard else .assist) := by
  have : cls = 0 ∨ cls = 1 ∨ cls = 2 := by bv_omega
  rcases this with rfl | rfl | rfl <;> rfl

theorem configureInputMapLine_takes (n : Fin 32) (line cls door : Byte) (d : Fin 8) (hn : line.toNat = n.val)
    (hd : door.toNat = d.val) (listed : cls.toNat ≤ 2) :
    Takes .vl ⟨0x26, tag, [5, line, cls, door]⟩ (.configureInputMapLine .vl) s
      (accepted ⟨0x26, tag, [5, line, cls, door]⟩ [5]) [.lines] fun t =>
        t.stop.lines[n] = ⟨if cls = 0 then .off else if cls = 1 then .standard else .assist, d, .idle, 0, 0⟩ ∧
        ∀ m : Fin 32, m ≠ n → t.stop.lines[m] = s.stop.lines[m] := by
  have inMap : line.toNat < 32 := by omega
  have inDoors : door.toNat < 8 := by omega
  obtain rfl : n = ⟨line.toNat, inMap⟩ := Fin.ext hn.symm
  obtain rfl : d = ⟨door.toNat, inDoors⟩ := Fin.ext hd.symm
  refine configure_rests (take := takeInputLine) (fun _ => rfl) ⟨dark, standstill, rfl, by simp⟩
    (by simp only [takeInputLine, lineClassOf_listed listed, inMap, inDoors, dif_pos]; rfl)
    (setLine_changes _ _ _) (by decide) (by decide) (by decide) rfl fun v push => ?_
  have lines : v.stop.lines = _ := push .lines (by decide)
  rw [lines]
  refine ⟨by simp [setLine], fun m hm => ?_⟩
  have : line.toNat ≠ m.val := fun h => hm (Fin.ext h.symm)
  simp [setLine, Vector.getElem_set_ne _ _ this, popped, popCommand, State.setPort]

/-! ### The vigilance action (R89) and the source levels (R130) -/

omit dark standstill in
theorem withAction_changes (a : VigilanceAction) (l : Bool) (s : State) :
    Changes [.vigilanceSetting] s (s.withEmerg { s.emerg with action := a, locked := l }) := by
  intro p hp
  cases p <;> first | exact absurd (by decide) hp | (repeat' constructor)

theorem configureBrakeAction_takes :
    Takes .vl ⟨0x26, tag, [8, 1]⟩ (.configureVigilanceAction .vl) s (accepted ⟨0x26, tag, [8, 1]⟩ [8]) [.vigilanceSetting]
      fun t => t.emerg.action = .brake ∧ t.emerg.locked = true :=
  configure_rests (take := takeVigilanceAction) (fun _ => rfl) ⟨dark, standstill, rfl, by simp⟩ rfl
    (withAction_changes .brake true _) (by decide) (by decide) (by decide) rfl
    fun _ push => push .vigilanceSetting (by decide)

theorem configureWarnAction_takes (unlocked : s.emerg.locked = false) :
    Takes .vl ⟨0x26, tag, [8, 0]⟩ (.configureVigilanceAction .vl) s (accepted ⟨0x26, tag, [8, 0]⟩ [8]) [.vigilanceSetting]
      fun t => t.emerg.action = .warnOnly ∧ t.emerg.locked = false := by
  have open_ : (popped s).emerg.locked = false := unlocked
  exact configure_rests (take := takeVigilanceAction) (fun _ => rfl) ⟨dark, standstill, rfl, by simp⟩
    (by simp only [takeVigilanceAction, actionOf, open_]; rfl)
    (withAction_changes .warnOnly false _) (by decide) (by decide) (by decide) rfl
    fun _ push => push .vigilanceSetting (by decide)

omit dark standstill in
theorem withLevels_changes (l : Levels) (s : State) :
    Changes [.levels] s (s.withWayside { s.wayside with levels := l }) := by
  intro p hp
  cases p <;> first | exact absurd (by decide) hp | (repeat' constructor)

theorem configureSourceLevel_takes (src level : Byte) (q : Source) (source : sourceOf src = some q)
    (binary : level.toNat ≤ 1) :
    Takes .vl ⟨0x26, tag, [9, src, level]⟩ (.configureSourceLevel .vl) s (accepted ⟨0x26, tag, [9, src, level]⟩ [9])
      [.levels] fun t => t.wayside.levels = s.wayside.levels.with q (decide (level = 1)) := by
  have one : decide (level.toNat = 1) = decide (level = 1) := decide_eq_decide.mpr (by bv_omega)
  exact configure_rests (take := takeSourceLevel) (fun _ => rfl) ⟨dark, standstill, rfl, by simp⟩
    (by simp only [takeSourceLevel, source, binary, if_true, one]; rfl)
    (withLevels_changes _ _) (by decide) (by decide) (by decide) rfl fun _ push => push .levels (by decide)

/-! ### Band monitors (R41) -/

omit dark standstill in
theorem edgeOf_listed {edge : Byte} (listed : edge.toNat ≤ 3) :
    edgeOf edge = some (if edge = 0 then .off else if edge = 1 then .rising else if edge = 2 then .falling else .both) := by
  have : edge = 0 ∨ edge = 1 ∨ edge = 2 ∨ edge = 3 := by bv_omega
  rcases this with rfl | rfl | rfl | rfl <;> rfl

omit dark standstill in
theorem patternOrNone_listed {pat : Byte} (listed : pat = 0xFF ∨ pat.toNat < 16) :
    ∃ link, patternOrNone pat = some link ∧ link.map Fin.val = if pat = 0xFF then none else some pat.toNat := by
  rcases listed with rfl | inTable
  · exact ⟨none, rfl, rfl⟩
  · have : ¬ pat = 255#8 := by bv_omega
    exact ⟨some ⟨pat.toNat, inTable⟩, by simp [patternOrNone, patternOf, this, inTable], by simp [this]⟩

theorem configureBandMonitor_takes (i : Fin 4) (m t1 t0 edge pat : Byte) (hi : m.toNat = i.val)
    (high : (t1 ++ t0 : BitVec 16).toNat ≤ 1000) (edges : edge.toNat ≤ 3) (patterns : pat = 0xFF ∨ pat.toNat < 16) :
    Takes .vl ⟨0x26, tag, [10, m, t1, t0, edge, pat]⟩ (.configureBandMonitor .vl) s
      (accepted ⟨0x26, tag, [10, m, t1, t0, edge, pat]⟩ [10]) [.speed] fun t =>
        t.speed.monitors[i].threshold = (t1 ++ t0 : BitVec 16).toNat ∧
        t.speed.monitors[i].edge =
          (if edge = 0 then .off else if edge = 1 then .rising else if edge = 2 then .falling else .both) ∧
        (t.speed.monitors[i].pattern.map Fin.val) = (if pat = 0xFF then none else some pat.toNat) ∧
        (t.speed.monitors[i].above = true ↔ (t1 ++ t0 : BitVec 16).toNat + 5 ≤ s.speed.vRef) ∧
        (∀ k : Fin 4, k ≠ i → t.speed.monitors[k] = s.speed.monitors[k]) ∧
        t.speed = { s.speed with monitors := t.speed.monitors } := by
  have inTable : m.toNat < 4 := by omega
  obtain rfl : i = ⟨m.toNat, inTable⟩ := Fin.ext hi.symm
  obtain ⟨link, linked, number⟩ := patternOrNone_listed patterns
  refine configure_rests (take := takeMonitor)
    (u := (popped s).withSpeed { s.speed with
      monitors := s.speed.monitors.set m.toNat (monitorOf _ _ link s.speed.vRef) inTable }) (fun _ => rfl) ⟨dark, standstill, rfl, by simp⟩
    (by simp only [takeMonitor, fieldIn_some (Nat.zero_le _) high, edgeOf_listed edges, linked, inTable, dif_pos]; rfl)
    (withSpeed_changes _ _) (by decide) (by decide) (by decide) rfl fun v push => ?_
  have speed : v.speed = _ := push .speed (by decide)
  rw [speed]
  refine ⟨by simp [monitorOf], by simp [monitorOf], by simpa [monitorOf] using number, by simp [monitorOf],
    fun k hk => ?_, rfl⟩
  have : m.toNat ≠ k.val := fun h => hk (Fin.ext h.symm)
  simp [Vector.getElem_set_ne _ _ this]

end

end Sys2Proof.Machine
end

section
/-!
PROOF. The pattern items of CONFIGURE, and all ten items together (O38).
-/

namespace Sys2Proof.Machine

/-! ### A changed pattern (R165, R166) -/

theorem PerSpeaker.get_map {α β : Type} (f : α → β) (v : PerSpeaker α) (k : Speaker) :
    (v.map f).get k = f (v.get k) := by
  cases k <;> rfl

/-- A playing entry of a changed pattern starts again; any other plays on (R166). -/
theorem restartPattern_playing {patterns : Vector Pattern 16} {n : Fin 16} {ch : SoundChannel} {e : SoundEntry}
    (playing : ch.playing = some e) :
    (ch.restartPattern patterns n).playing = some (if e.pattern = n then { e with step := 1, repeats := 0 } else e) := by
  unfold SoundChannel.restartPattern
  rw [playing]
  by_cases named : e.pattern = n
  · simp [named, SoundChannel.play, SoundEntry.restart]
  · simp [named]

/-- Where the POINT_WARN request stands as it is wanted and no NOTICE is owed, the end of the event leaves the channels. -/
theorem settle_channels {v : State} (warn : warnWanted v = v.junction.pointWarn)
    (still : (v.vl.owed && txRoom .vl v) = false) : (settle v).sound.channels = v.sound.channels := by
  have unwarned : settleWarning v = v := if_pos warn
  unfold settle
  rw [unwarned, flushNotice_none still]
  show (settleHorn v).sound.channels = _
  unfold settleHorn
  split <;> rfl

/-- An item that changes a pattern: the table and every channel's playing entry follow (R165, R166). -/
theorem configure_pattern {i : Instr} {item tag : Byte} {fields : List Byte} {take : List Byte → State → Reason ⊕ State}
    {s : State} {effect : State → Prop} (n : Fin 16) (p : Pattern) (row : RunsItem i item take)
    (at_ : ConfigureAt item fields s) (taken : take fields (popped s) = .inr (changePattern n p (popped s)))
    (effects : ∀ t, t.sound.patterns = s.sound.patterns.set n p →
      (∀ k e, (s.sound.channels.get k).playing = some e → (t.sound.channels.get k).playing =
        some (if e.pattern = n then { e with step := 1, repeats := 0 } else e)) → effect t) :
    Takes .vl ⟨0x26, tag, item :: fields⟩ i s (accepted ⟨0x26, tag, item :: fields⟩ [item]) (.patterns :: closing)
      effect := by
  have changed := changePattern_changes n p (popped s)
  refine configure_takes row at_ taken (changed.mono (by decide)) (by decide) (by decide) fun v push still settled => ?_
  have upTo : Changes [.port .vl, .patterns, .channels] s v :=
    (((popped_changes s).trans changed).mono (by simp)).comp (push.mono (by simp))
  have warn : warnWanted v = v.junction.pointWarn := by
    rw [warnWanted_same upTo (by decide) (by decide) (by decide), upTo .pointWarn (by decide)]
    exact settled.rests.warn
  refine ⟨(upTo.mono (by decide)).comp ((settle_noNotice still).mono (by decide)), effects _ ?_ ?_⟩
  · rw [settle_changes v .patterns (by decide), push .patterns (by decide)]
    rfl
  · intro k e playing
    have pushed : v.sound.channels = _ ∧ _ := push .channels (by decide)
    rw [settle_channels warn still, pushed.1]
    show ((PerSpeaker.map (SoundChannel.restartPattern _ n) _).get k).playing = _
    rw [PerSpeaker.get_map]
    exact restartPattern_playing playing

theorem patternOf_listed {pat : Byte} {n : Fin 16} (h : pat.toNat = n.val) : patternOf pat = some n := by
  simp [patternOf, h]

theorem repeatOf_listed {rep : Byte} (h : rep.toNat ≤ 15) :
    repeatOf rep = some (if rep = 0 then .held else .times rep.toNat) := by
  have zero : rep.toNat = 0 ↔ rep = 0 := by bv_omega
  simp only [repeatOf, zero, h, if_true]
  split <;> rfl

section
variable (tag : Byte) {s : State} (dark : s.auth.record = .dark) (standstill : s.speed.standstill = true)
include dark standstill

theorem configurePatternHead_takes (n : Fin 16) (pat priority rep count : Byte) (hn : pat.toNat = n.val)
    (priorities : priority.toNat ≤ 7) (repeats : rep.toNat ≤ 15) (some_ : 1 ≤ count.toNat) (places : count.toNat ≤ 8)
    (emergency : n = 7 → priority = 7 ∧ rep = 3) :
    Takes .vl ⟨0x26, tag, [6, pat, priority, rep, count]⟩ (.configurePatternHead .vl) s
      (accepted ⟨0x26, tag, [6, pat, priority, rep, count]⟩ [6]) (.patterns :: closing) fun t =>
        t.sound.patterns[n] = { s.sound.patterns[n] with
          priority := priority.toNat, rep := if rep = 0 then .held else .times rep.toNat, count := count.toNat } ∧
        (∀ m : Fin 16, m ≠ n → t.sound.patterns[m] = s.sound.patterns[m]) ∧
        ∀ k e, (s.sound.channels.get k).playing = some e → (t.sound.channels.get k).playing =
          some (if e.pattern = n then { e with step := 1, repeats := 0 } else e) := by
  have allowed : emergencyHeadBad n priority.toNat (if rep = 0 then .held else .times rep.toNat) = false := by
    by_cases seven : n = 7
    · obtain ⟨rfl, rfl⟩ := emergency seven
      simp [emergencyHeadBad]
    · simp [emergencyHeadBad, emergencyPattern, seven]
  refine configure_pattern (take := takePatternHead) n _ (fun _ => rfl) ⟨dark, standstill, rfl, by simp⟩
    (by simp only [takePatternHead, patternOf_listed hn, repeatOf_listed repeats, priorities, some_, places, allowed,
          decide_true, Bool.not_false, Bool.and_self, if_true]; rfl)
    fun t patterns playing => ⟨?_, fun m hm => ?_, playing⟩
  · simp [patterns, popped, popCommand, State.setPort]
  · have : n.val ≠ m.val := fun h => hm (Fin.ext h.symm)
    simp [patterns, Vector.getElem_set_ne _ _ this]

end

/-! ### The steps of a pattern (R165) -/

/-- The step that an output byte and a duration byte give. -/
def stepFrom (x : Byte × Byte) : PatternStep :=
  ⟨if x.1 = 0 then .off else if x.1 = 8 then .on else .tone x.1.toNat, x.2.toNat⟩

theorem stepOf_listed {out : Byte} (h : out.toNat ≤ 8) :
    stepOf out = some (if out = 0 then .off else if out = 8 then .on else .tone out.toNat) := by
  have zero : out.toNat = 0 ↔ out = 0 := by bv_omega
  by_cases eight : out = 8
  · subst eight
    rfl
  · have : out.toNat ≤ 7 := by bv_omega
    simp only [stepOf, zero, this, eight, if_true, if_false]
    split <;> rfl

theorem stepsOf_flatMap {steps : List (Byte × Byte)} (listed : ∀ x ∈ steps, x.1.toNat ≤ 8 ∧ 1 ≤ x.2.toNat) :
    stepsOf (steps.flatMap fun x => [x.1, x.2]) = some (steps.map stepFrom) := by
  induction steps with
  | nil => rfl
  | cons x xs ih =>
    obtain ⟨out, units⟩ := listed x List.mem_cons_self
    have rest := ih fun y hy => listed y (List.mem_cons_of_mem _ hy)
    show stepsOf (x.1 :: x.2 :: xs.flatMap fun x => [x.1, x.2]) = _
    simp only [stepsOf, stepOf_listed out, rest, units, if_true]
    rfl

/-- Steps written from place `i` on stand there one after the other, and every other place stays. -/
theorem getElem_writeSteps (l : List PatternStep) (places : Vector PatternStep 8) (i : Nat) (j : Fin 8) :
    (writeSteps places i l)[j] = if i ≤ j.val then (l[j.val - i]?).getD places[j] else places[j] := by
  induction l generalizing places i with
  | nil => simp [writeSteps]
  | cons x xs ih =>
    rw [writeSteps, ih]
    rcases Nat.lt_trichotomy i j.val with before | same | after
    · have next : j.val - i = j.val - (i + 1) + 1 := by omega
      simp [show i + 1 ≤ j.val by omega, show i ≤ j.val by omega, next, show i ≠ j.val by omega]
    · simp [same]
    · simp [show ¬ i + 1 ≤ j.val by omega, show ¬ i ≤ j.val by omega, show i ≠ j.val by omega]

section
variable (tag : Byte) {s : State} (dark : s.auth.record = .dark) (standstill : s.speed.standstill = true)
include dark standstill

theorem configurePatternSteps_takes (n : Fin 16) (pat first : Byte) (steps : List (Byte × Byte))
    (hn : pat.toNat = n.val) (one : 1 ≤ first.toNat) (some_ : 1 ≤ steps.length) (four : steps.length ≤ 4)
    (places : first.toNat + steps.length ≤ 9) (listed : ∀ x ∈ steps, x.1.toNat ≤ 8 ∧ 1 ≤ x.2.toNat) :
    let fields := pat :: first :: steps.flatMap fun x => [x.1, x.2]
    Takes .vl ⟨0x26, tag, 7 :: fields⟩ (.configurePatternSteps .vl) s (accepted ⟨0x26, tag, 7 :: fields⟩ [7])
      (.patterns :: closing) fun t =>
        t.sound.patterns = s.sound.patterns.set n { s.sound.patterns[n] with
          steps := writeSteps s.sound.patterns[n].steps (first.toNat - 1) (steps.map stepFrom) } ∧
        ∀ k e, (s.sound.channels.get k).playing = some e → (t.sound.channels.get k).playing =
          some (if e.pattern = n then { e with step := 1, repeats := 0 } else e) := by
  intro fields
  have length : fields.length = 2 + 2 * steps.length := by
    simp [fields, List.length_flatMap]
    omega
  have known : itemMatches 7 (fields.length + 1) = true := by
    have : steps.length = 1 ∨ steps.length = 2 ∨ steps.length = 3 ∨ steps.length = 4 := by omega
    rcases this with h | h | h | h <;> rw [length, h] <;> rfl
  have inBounds : (decide (1 ≤ first.toNat) && decide (first.toNat ≤ 8) &&
      decide (first.toNat + (steps.map stepFrom).length ≤ 9)) = true := by
    simp
    omega
  refine configure_pattern (take := takePatternSteps) n _ (fun _ => rfl) ⟨dark, standstill, known, by omega⟩ ?_
    fun t patterns playing => ⟨patterns, playing⟩
  simp only [fields, takePatternSteps, patternOf_listed hn, stepsOf_flatMap listed]
  rw [if_pos inBounds]
  rfl

end

/-- Settles O38, item by item. -/
theorem configureItemsTake : Obligations.ConfigureItemsTake := by
  intro tag s dark standstill takes
  refine ⟨fun b1 b0 => ⟨configureVehicleNumber_takes tag dark standstill b1 b0,
      configureLength_takes tag dark standstill b1 b0, configurePulseLength_takes tag dark standstill b1 b0⟩,
    configureRank_takes tag dark standstill, configureInputMapLine_takes tag dark standstill,
    configurePatternHead_takes tag dark standstill, ?_, configureBrakeAction_takes tag dark standstill,
    configureWarnAction_takes tag dark standstill, fun level binary =>
      ⟨configureSourceLevel_takes tag dark standstill 0 level .jr rfl binary,
        configureSourceLevel_takes tag dark standstill 1 level .jq rfl binary,
        configureSourceLevel_takes tag dark standstill 2 level .sp rfl binary⟩,
    configureBandMonitor_takes tag dark standstill⟩
  intro n pat first steps hn one some_ four places listed offered settled
  obtain ⟨t, outcome, answered, frame, patterns, playing⟩ :=
    configurePatternSteps_takes tag dark standstill n pat first steps hn one some_ four places listed offered settled
  refine ⟨t, outcome, answered, frame, fun m hm => ?_, ?_, fun i => ?_, playing⟩
  · have : n.val ≠ m.val := fun h => hm (Fin.ext h.symm)
    simp [patterns, Vector.getElem_set_ne _ _ this]
  · simp [patterns]
  · have table : t.sound.patterns[n].steps =
        writeSteps s.sound.patterns[n].steps (first.toNat - 1) (steps.map stepFrom) := by simp [patterns]
    rw [table, getElem_writeSteps]
    by_cases from_ : first.toNat ≤ i.val + 1
    · have index : i.val - (first.toNat - 1) = i.val + 1 - first.toNat := by omega
      rw [if_pos from_, if_pos (by omega), index, List.getElem?_map]
      cases steps[i.val + 1 - first.toNat]? <;> rfl
    · rw [if_neg from_, if_neg (by omega)]

end Sys2Proof.Machine
end

section
/-!
PROOF. What the other units add to a period update (log 12): reports only ever join, and the buzzers' channels and the door pulses
stay as they are.
-/

namespace Sys2Proof.Machine

/-! ### Reports that only join -/

/-- No flag falls, and no event leaves the queue while it does not fill (R207, R209). -/
structure Reports (s t : State) : Prop where
  flags : ∀ n, s.vl.flags.getLsbD n = true → t.vl.flags.getLsbD n = true
  events : t.vl.events.length < 32 → s.vl.events <+: t.vl.events

theorem Reports.trans {s t u : State} (h : Reports s t) (k : Reports t u) : Reports s u where
  flags n set := k.flags n (h.flags n set)
  events room :=
    have later := k.events room
    (h.events (Nat.lt_of_le_of_lt later.length_le room)).trans later

theorem Reports.of_same {s t : State} (events : t.vl.events = s.vl.events) (flags : t.vl.flags = s.vl.flags) :
    Reports s t := ⟨fun n set => by rw [flags]; exact set, fun _ => by rw [events]⟩

theorem Changes.reports {a : List Part} {s t : State} (h : Changes a s t) (events : Part.events ∉ a)
    (flags : Part.flags ∉ a) : Reports s t := .of_same (h .events events) (h .flags flags)

theorem raiseFlag_reports (f : NoticeFlag) (s : State) : Reports s (raiseFlag f s) where
  flags n set := by simp [raiseFlag_flags, set]
  events _ := by rw [raiseFlag_events]

theorem appendEvent_reports (e : TripEvent) (s : State) : Reports s (appendEvent e s) where
  flags n set := by simp [appendEvent_flags, set]
  events room := by
    rw [appendEvent_events] at room ⊢
    unfold logEntry at room ⊢
    split
    · exact List.prefix_append _ _
    next full =>
      rw [if_neg full] at room
      simp at room
      omega

theorem Reports.reported {s t : State} {e : TripEvent} (h : Reports s t)
    (logged : s.vl.events.length < 32 → Reported e s) (room : t.vl.events.length < 32) : Reported e t := by
  have later := h.events room
  obtain ⟨x, member, event⟩ := logged (Nat.lt_of_le_of_lt later.length_le room)
  exact ⟨x, later.subset member, event⟩

/-! ### Units that leave the buzzers and the door pulses -/

/-- Reports join, and the buzzers' channels and the door pulses stay. -/
structure Adds (s t : State) : Prop extends Reports s t where
  buzzers : ∀ e, t.sound.channels.get (endBuzzer e) = s.sound.channels.get (endBuzzer e)
  pulses : t.stop.pulses = s.stop.pulses

theorem Adds.refl (s : State) : Adds s s := ⟨.of_same rfl rfl, fun _ => rfl, rfl⟩

theorem Adds.trans {s t u : State} (h : Adds s t) (k : Adds t u) : Adds s u :=
  ⟨h.toReports.trans k.toReports, fun e => (k.buzzers e).trans (h.buzzers e), k.pulses.trans h.pulses⟩

theorem Adds.ite {s t u : State} {c : Prop} [Decidable c] (h : Adds s t) (k : Adds s u) :
    Adds s (if c then t else u) := by
  split <;> assumption

theorem Changes.adds {a : List Part} {s t : State} (h : Changes a s t)
    (out : ∀ p ∈ [Part.events, .flags, .channels, .pulses], p ∉ a) : Adds s t where
  toReports := h.reports (out _ (by decide)) (out _ (by decide))
  buzzers e := by
    have channels : _ ∧ _ ∧ _ := h .channels (out _ (by decide))
    rw [channels.1]
  pulses := h .pulses (out _ (by decide))

theorem raiseFlag_adds (f : NoticeFlag) (s : State) : Adds s (raiseFlag f s) where
  toReports := raiseFlag_reports f s
  buzzers e := by rw [(raiseFlag_changes f s .channels (by decide) : _ ∧ _).1]
  pulses := raiseFlag_changes f s .pulses (by decide)

theorem appendEvent_adds (e : TripEvent) (s : State) : Adds s (appendEvent e s) where
  toReports := appendEvent_reports e s
  buzzers at_ := by rw [(appendEvent_changes e s .channels (by decide) : _ ∧ _).1]
  pulses := appendEvent_changes e s .pulses (by decide)

/-- A request on a channel that is no buzzer. -/
theorem requestSound_adds {k : Speaker} (other : ∀ e, endBuzzer e ≠ k) (src : SoundSource) (n : Fin 16) (held : Bool)
    (s : State) : Adds s (requestSound k src n held s) where
  toReports := (requestSound_changes k src n held s).reports (by decide) (by decide)
  buzzers e := by
    unfold requestSound
    split
    · rfl
    · exact PerSpeaker.get_set_other _ _ _ _ (other e)
  pulses := requestSound_changes k src n held s .pulses (by decide)

theorem endBuzzer_ne_bell (e : End) : endBuzzer e ≠ .bell := by cases e <;> decide

theorem endBuzzer_ne_horn (e : End) : endBuzzer e ≠ .horn := by cases e <;> decide

theorem endBuzzer_ne_chime (e : End) : endBuzzer e ≠ .chime := by cases e <;> decide

/-! ### The emergency unit -/

theorem setSource_adds (src : EmergencySource) (s : State) : Adds s (setSource src s) := by
  unfold setSource
  split
  · exact ((((withLatch_changes _ _ s).adds (by decide)).trans (requestSound_adds endBuzzer_ne_bell _ _ _ _)).trans
      (requestSound_adds endBuzzer_ne_horn _ _ _ _)).trans ((appendEvent_adds _ _).trans (raiseFlag_adds _ _))
  · split
    · exact .refl s
    · exact ((withLatch_changes _ s.emerg.first s).adds (by decide)).trans (appendEvent_adds _ _)

theorem changeDivisor_adds (d : Nat) (s : State) : Adds s (changeDivisor d s) :=
  (((withLadder_changes s.emerg.demands d s.emerg.settle s).adds (by decide)).trans (appendEvent_adds _ _)).trans
    (raiseFlag_adds _ _)

theorem handDemands_adds (d : Demands) (s : State) : Adds s (handDemands d s) := by
  unfold handDemands
  have h := (withLadder_changes d s.emerg.divisor
    (settleAfter s.emerg.demands.target d.target s.emerg.divisor s.emerg.settle) s).adds (by decide)
  exact .ite (h.trans (changeDivisor_adds _ _)) h

theorem handIfChanged_adds (d : Demands) (s : State) : Adds s (handIfChanged d s) :=
  .ite (.refl s) (handDemands_adds d s)

theorem armLine_adds (s : State) : Adds s (armLine s) := by
  unfold armLine
  exact .ite (.refl s) ((Adds.ite (.refl s) (setSource_adds .loop s)).trans
    ((withArmed_changes true _).adds (by decide)))

/-! ### The junction unit -/

theorem makeRecord_adds (c : JunctionContents) (s : State) : Adds s (makeRecord c s) := by
  unfold makeRecord
  have made := (setRecords_changes (s.junction.records ++ [c.toRecord]) s).adds (by decide)
  split
  · exact (made.trans ((offerRequest_changes _ _ _).adds (by decide))).trans (appendEvent_adds _ _)
  · exact made.trans (appendEvent_adds _ _)

theorem promoteOverflow_adds (s : State) : Adds s (promoteOverflow s) := by
  unfold promoteOverflow
  split
  · exact ((withOverflow_changes none false s).adds (by decide)).trans (makeRecord_adds _ _)
  · exact (withOverflow_changes s.junction.overflow false s).adds (by decide)

theorem enterPoint_adds (x : JunctionRecord) (s : State) : Adds s (enterPoint x s) := by
  unfold enterPoint
  have entered := ((updateRecord_changes x.junction (JunctionRecord.entered s.speed.odometer) s).trans
    (removeRequests_changes x.junction _)).adds (by decide)
  exact .ite entered (.ite (entered.trans (appendEvent_adds _ _))
    ((entered.trans (setSource_adds _ _)).trans (appendEvent_adds _ _)))

theorem enterOverflow_adds (c : JunctionContents) (s : State) : Adds s (enterOverflow c s) := by
  unfold enterOverflow
  have left := (withOverflow_changes none s.junction.tableFull s).adds (by decide)
  exact .ite (left.trans (appendEvent_adds _ _)) (((left.trans ((freshValue_changes _).adds (by decide))).trans
    (setSource_adds _ _)).trans (appendEvent_adds _ _))

theorem passRecord_adds (x : JunctionRecord) (s : State) : Adds s (passRecord x s) :=
  (((setRecords_changes _ s).adds (by decide)).trans (appendEvent_adds _ _)).trans (promoteOverflow_adds _)

theorem enterReached_adds (l : List JunctionRecord) (s : State) : Adds s (enterReached l s) := by
  induction l generalizing s with
  | nil => exact .refl s
  | cons x xs ih => exact (Adds.ite (enterPoint_adds x s) (.refl s)).trans (ih _)

theorem overflowReached_adds (s : State) : Adds s (overflowReached s) := by
  unfold overflowReached
  split
  · exact .ite (enterOverflow_adds _ s) (.refl s)
  · exact .refl s

theorem passCleared_adds (l : List JunctionRecord) (s : State) : Adds s (passCleared l s) := by
  induction l generalizing s with
  | nil => exact .refl s
  | cons x xs ih => exact (Adds.ite (passRecord_adds x s) (.refl s)).trans (ih _)

theorem junctionPeriod_adds (s : State) : Adds s (junctionPeriod s) :=
  ((enterReached_adds _ s).trans (overflowReached_adds _)).trans (passCleared_adds _ _)

/-! ### The departure -/

theorem offerPriority_adds (r : Priority) (s : State) : Adds s (offerPriority r s) := by
  unfold offerPriority
  exact .ite (.refl s) (.ite ((((withQueues_changes { s.wayside with sp := s.wayside.sp ++ [r] } s ⟨rfl, rfl, rfl⟩).adds
    (by decide)).trans (appendEvent_adds _ _)).trans ((afterOffer_changes _ _ _).adds (by decide)))
    (appendEvent_adds _ s))

theorem releaseHeldPriority_adds (s : State) : Adds s (releaseHeldPriority s) := by
  unfold releaseHeldPriority
  split
  · exact ((withHeld_changes none s).adds (by decide)).trans (offerPriority_adds _ _)
  · exact .refl s

theorem setOwn_adds (o : StopState) (s : State) : Adds s (setOwn o s) := (setOwn_changes o s).adds (by decide)

theorem setAssist_adds (d : Nat) (s : State) : Adds s (setAssist d s) :=
  .ite (.refl s) (((setOwn_adds _ s).trans (requestSound_adds endBuzzer_ne_chime _ _ _ _)).trans (appendEvent_adds _ _))

theorem enterRequested_adds (ds : DoorSet) (d : Nat) (c : PressClass) (s : State) : Adds s (enterRequested ds d c s) :=
  ((setOwn_adds _ s).trans (requestSound_adds endBuzzer_ne_chime _ _ _ _)).trans (appendEvent_adds _ _)

theorem carryAssist_adds (ds : DoorSet) (s : State) : Adds s (carryAssist ds s) := by
  unfold carryAssist
  split
  · exact setAssist_adds _ s
  · exact ((chooseFrom_changes _ _ s).adds (by decide)).trans (setAssist_adds _ _)

theorem carryEarly_adds (s : State) : Adds s (carryEarly s) := by
  unfold carryEarly
  have requested (o : StopState) (ds : DoorSet) (d : Nat) (c : PressClass) :=
    (setOwn_adds o s).trans (enterRequested_adds ds d c (setOwn o s))
  exact .ite ((requested _ _ _ _).trans (carryAssist_adds _ _)) (requested _ _ _ _)

theorem testDeparture_adds (s : State) : Adds s (testDeparture s) := by
  unfold testDeparture completeDeparture
  have released (o : StopState) := (setOwn_adds o s).trans (releaseHeldPriority_adds (setOwn o s))
  exact .ite (.ite ((released _).trans (carryEarly_adds _)) (released _)) (.refl s)

/-! ### SEVERED at standstill -/

theorem setConsistState_adds (c : ConsistState) (s : State) : Adds s (setConsistState c s) := by
  unfold setConsistState
  have moved (u : ConsistUnit) : Adds s (reportConsist (forgetAnswer (s.withConsist u))) :=
    (((withConsist_changes u s).trans (forgetAnswer_changes (s.withConsist u))).adds (by decide)).trans
      (appendEvent_adds _ _)
  exact .ite (.refl s) (.ite ((moved _).trans (handIfChanged_adds _ _)) (moved _))

/-- A SEVERED part does not leave COUPLED when it becomes SINGLE (R193). -/
theorem severedPeriod_eq (s : State) : severedPeriod s =
    if s.consist.state = .severed ∧ s.speed.standstill = true then setConsistState .single (emptyPartner s) else s := by
  unfold severedPeriod
  split
  next h =>
    have apart : ¬ ((emptyPartner s).consist.state = .coupled ∧ ConsistState.single ≠ .coupled) := by
      simp [emptyPartner, h.1]
    exact if_neg apart
  next => rfl

theorem severedPeriod_adds (s : State) : Adds s (severedPeriod s) := by
  rw [severedPeriod_eq]
  exact .ite (((withConsist_changes _ s).adds (by decide)).trans (setConsistState_adds _ _)) (.refl s)

/-! ### The demand shaper -/

theorem countHistory_adds (s : State) : Adds s (countHistory s) :=
  .ite (handDemands_adds _ s) (.ite (handDemands_adds _ s) (.refl s))

theorem withShaper_adds (x : Shaper) (s : State) : Adds s (s.withShaper x) := (withShaper_changes x s).adds (by decide)

theorem adhesionStep_adds (s : State) : Adds s (adhesionStep s) := by
  have detected : Adds s (detectSlip (slipDifference s) s) := (withShaper_adds _ s).trans (appendEvent_adds _ _)
  unfold adhesionStep
  split
  · exact .ite detected (.refl s)
  · exact (slipPeriod_changes _ s).adds (by decide)
  · exact .ite detected (.ite (withShaper_adds _ s) (withShaper_adds _ s))

theorem computeDemand_adds (s : State) : Adds s (computeDemand s) := by
  have flagged : Adds s (settleOverspeed s) := by
    unfold settleOverspeed
    exact .ite ((withShaper_adds _ s).trans (appendEvent_adds _ _)) (withShaper_adds _ s)
  exact flagged.trans (withShaper_adds _ _)

theorem shaperPeriod_adds (s : State) : Adds s (shaperPeriod s) := by
  unfold shaperPeriod
  have aged : Adds s (ageHistory s) := withShaper_adds _ s
  exact .ite (aged.trans (countHistory_adds _)) ((((aged.trans (withShaper_adds _ _)).trans (adhesionStep_adds _)).trans
    (countHistory_adds _)).trans (computeDemand_adds _))

end Sys2Proof.Machine
end

section
/-!
PROOF. A SPEED_BAND request on a driver's buzzer through the rest of a period update (R40, R170 to R175).
-/

namespace Sys2Proof.Machine

/-! ### The entries of a channel -/

/-- The entries of a channel, the playing one first. -/
def SoundChannel.entries (ch : SoundChannel) : List SoundEntry := ch.playing.toList ++ ch.waiting

theorem SoundChannel.holds_iff {ch : SoundChannel} {src : SoundSource} :
    ch.holds src = true ↔ ∃ x ∈ ch.entries, x.source = src := by
  unfold SoundChannel.holds SoundChannel.plays SoundChannel.entries
  cases ch.playing <;> simp [SoundEntry.isFrom]

theorem insertEntry_perm (patterns : Vector Pattern 16) (e : SoundEntry) (ws : List SoundEntry) :
    (insertEntry patterns e ws).Perm (e :: ws) := by
  induction ws with
  | nil => exact .refl _
  | cons w ws ih =>
    unfold insertEntry
    split
    · exact .refl _
    · exact (ih.cons w).trans (.swap e w ws)

theorem sortEntries_perm (patterns : Vector Pattern 16) (ws : List SoundEntry) :
    (sortEntries patterns ws).Perm ws := by
  induction ws with
  | nil => exact .refl _
  | cons w ws ih => exact (insertEntry_perm patterns w _).trans (ih.cons w)

/-- While at most two wait, the entry that joins drops none (R172). -/
theorem joinWaiting_perm {patterns : Vector Pattern 16} {e : SoundEntry} {ws : List SoundEntry} (few : ws.length ≤ 2) :
    (joinWaiting patterns e ws).Perm (e :: ws) := by
  have length := (insertEntry_perm patterns e ws).length_eq
  unfold joinWaiting
  rw [List.take_of_length_le (by rw [length]; simp [waitingPlaces]; omega)]
  exact insertEntry_perm patterns e ws

/-- The channel holds an entry of a source, among at most `n` entries. -/
structure SoundChannel.Carries (src : SoundSource) (n : Nat) (ch : SoundChannel) : Prop where
  present : ∃ x ∈ ch.entries, x.source = src
  few : ch.entries.length ≤ n

theorem SoundChannel.Carries.mono {src : SoundSource} {m n : Nat} {ch : SoundChannel} (h : ch.Carries src m)
    (le : m ≤ n) : ch.Carries src n := ⟨h.present, h.few.trans le⟩

/-- Entries with the same sources, up to their order, carry the same; `extra` is what joined. -/
theorem SoundChannel.Carries.of_sources {src : SoundSource} {n : Nat} {ch ch' : SoundChannel} (h : ch.Carries src n)
    (extra : List SoundSource)
    (perm : (ch'.entries.map (·.source)).Perm (extra ++ ch.entries.map (·.source))) :
    ch'.Carries src (n + extra.length) where
  present := by
    obtain ⟨x, member, source⟩ := h.present
    have : src ∈ ch'.entries.map (·.source) :=
      perm.mem_iff.mpr (List.mem_append_right _ (List.mem_map.mpr ⟨x, member, source⟩))
    exact List.mem_map.mp this
  few := by
    have := perm.length_eq
    have := h.few
    simp only [List.length_append, List.length_map] at *
    omega

/-- A request joins a channel that has room, or restarts the entry of its source (R171, R172). -/
theorem SoundChannel.Carries.place {src : SoundSource} {n : Nat} {ch : SoundChannel} (h : ch.Carries src n) (room : n ≤ 3)
    (patterns : Vector Pattern 16) (source : SoundSource) (pattern : Fin 16) (held : Bool) (age : Nat) :
    (ch.place patterns source pattern held age).Carries src (n + 1) := by
  have few := h.few
  have joined (c : SoundChannel) (perm : (c.entries.map (·.source)).Perm (source :: ch.entries.map (·.source))) :
      c.Carries src (n + 1) := h.of_sources [source] perm
  have kept (c : SoundChannel) (perm : (c.entries.map (·.source)).Perm (ch.entries.map (·.source))) :
      c.Carries src (n + 1) := (h.of_sources [] perm).mono (by simp)
  unfold SoundChannel.place
  split
  next silent => exact joined _ (by simp [SoundChannel.entries, SoundChannel.play, silent])
  next e playing =>
    have waits : ch.waiting.length ≤ 2 := by
      simp only [SoundChannel.entries, playing, Option.toList_some, List.length_append, List.length_singleton] at few
      omega
    split
    next same => exact kept _ (by simp [SoundChannel.entries, SoundChannel.play, SoundEntry.restart, playing])
    next =>
      split
      next =>
        refine kept _ ?_
        simp only [SoundChannel.entries, playing, Option.toList_some, List.map_append]
        refine .append_left _ (((sortEntries_perm patterns _).map _).trans (.of_eq ?_))
        rw [List.map_map]
        refine List.map_congr_left fun w _ => ?_
        by_cases from_ : w.source = source <;> simp [from_, SoundEntry.restart]
      next =>
        split
        next =>
          refine joined _ ?_
          simp only [SoundChannel.entries, SoundChannel.play, playing, Option.toList_some, List.map_append]
          exact ((joinWaiting_perm waits).map _).cons source
        next =>
          refine joined _ ?_
          simp only [SoundChannel.entries, playing, Option.toList_some, List.map_append]
          exact (((joinWaiting_perm waits).map _).cons e.source).trans (.swap _ _ _)

/-- Removing another source leaves the entry (R173, R175). -/
theorem SoundChannel.Carries.remove {src : SoundSource} {n : Nat} {ch : SoundChannel} (h : ch.Carries src n)
    (patterns : Vector Pattern 16) {source : SoundSource} (other : source ≠ src) :
    (ch.remove patterns source).Carries src n := by
  obtain ⟨x, member, ours⟩ := h.present
  have few := h.few
  unfold SoundChannel.remove
  split
  next plays =>
    cases playing : ch.playing with
    | none => simp [SoundChannel.plays, playing] at plays
    | some e =>
      have theirs : e.source = source := by simpa [SoundChannel.plays, playing, SoundEntry.isFrom] using plays
      simp only [SoundChannel.entries, playing, Option.toList_some, List.singleton_append, List.mem_cons,
        List.length_cons] at member few
      have waits : x ∈ ch.waiting := member.resolve_left fun h => other (by rw [← theirs, ← h, ours])
      have entries : (ch.next patterns).entries = ch.waiting := by
        unfold SoundChannel.next
        split
        next h => simp [h, SoundChannel.entries, SoundChannel.silent]
        next h => simp [h, SoundChannel.entries, SoundChannel.play]
      exact ⟨⟨x, by rwa [entries], ours⟩, by rw [entries]; omega⟩
  next =>
    have stays : (!x.isFrom source) = true := by simpa [SoundEntry.isFrom, ours] using other.symm
    simp only [SoundChannel.entries, List.mem_append, List.length_append] at member few
    refine ⟨⟨x, ?_, ours⟩, ?_⟩
    · simp only [SoundChannel.entries, List.mem_append, List.mem_filter]
      exact member.imp_right fun w => ⟨w, stays⟩
    · have := List.length_filter_le (fun w => !w.isFrom source) ch.waiting
      simp only [SoundChannel.entries, List.length_append]
      omega

/-! ### Requests and withdrawals of the state -/

theorem requestSound_carries {src : SoundSource} {n : Nat} {s : State} {k : Speaker}
    (h : (s.sound.channels.get k).Carries src n) (room : n ≤ 3) (l : Speaker) (source : SoundSource) (p : Fin 16)
    (held : Bool) : ((requestSound l source p held s).sound.channels.get k).Carries src (n + 1) := by
  unfold requestSound
  split
  · exact h.mono (by omega)
  · by_cases same : k = l
    · subst same
      simpa using h.place room _ _ _ _ _
    · simpa [same] using h.mono (by omega)

theorem withdrawSound_carries {src : SoundSource} {n : Nat} {s : State} {k : Speaker}
    (h : (s.sound.channels.get k).Carries src n) (l : Speaker) {source : SoundSource} (other : source ≠ src) :
    ((withdrawSound l source s).sound.channels.get k).Carries src n := by
  by_cases same : k = l
  · subst same
    simpa [withdrawSound] using h.remove _ other
  · simpa [withdrawSound, same] using h

theorem requestWarn_carries {src : SoundSource} {n : Nat} {s : State} {k : Speaker}
    (h : (s.sound.channels.get k).Carries src n) (room : n ≤ 3) :
    ((requestWarn s).sound.channels.get k).Carries src (n + 1) := by
  unfold requestWarn
  split
  · exact requestSound_carries (by exact h) room _ _ _ _
  · exact h.mono (by omega)

theorem releaseWarn_carries {src : SoundSource} {n : Nat} {s : State} {k : Speaker}
    (h : (s.sound.channels.get k).Carries src n) (other : .vigilanceWarn ≠ src) :
    ((releaseWarn s).sound.channels.get k).Carries src n := by
  unfold releaseWarn
  split
  · exact withdrawSound_carries (by exact h) _ other
  · exact h

/-- The vigilance monitor's test adds at most its own entry (R85, R86). -/
theorem testVigilance_carries {src : SoundSource} {n : Nat} {s : State} {k : Speaker}
    (h : (s.sound.channels.get k).Carries src n) (room : n ≤ 3) (other : .vigilanceWarn ≠ src) :
    ((testVigilance s).sound.channels.get k).Carries src (n + 1) := by
  have stays := h.mono (Nat.le_succ n)
  unfold testVigilance
  split
  · split
    · exact stays
    · split
      · exact releaseWarn_carries (by exact stays) other
      · exact requestWarn_carries (by exact h) room
  · split
    · exact releaseWarn_carries (by exact stays) other
    · exact stays

/-- The end of the event adds at most the POINT_WARN entry (R105). -/
theorem settle_carries {src : SoundSource} {n : Nat} {s : State} {k : Speaker}
    (h : (s.sound.channels.get k).Carries src n) (room : n ≤ 3) (other : .pointWarn ≠ src) :
    ((settle s).sound.channels.get k).Carries src (n + 1) := by
  have ends : (settle s).sound.channels = (settleWarning s).sound.channels := by
    have flushed : _ ∧ _ := flushNotice_changes (settleWarning s) .channels (by decide)
    rw [← flushed.1]
    show (settleHorn (flushNotice (settleWarning s))).sound.channels = _
    unfold settleHorn
    split <;> rfl
  rw [ends]
  unfold settleWarning
  split
  · exact h.mono (by omega)
  · have released : ((match s.junction.pointWarn with
        | some e => withdrawSound (endBuzzer e) .pointWarn s
        | none => s).sound.channels.get k).Carries src n := by
      split
      · exact withdrawSound_carries h _ other
      · exact h
    dsimp only
    split
    · exact requestSound_carries released room _ _ _ _
    · exact released.mono (by omega)

end Sys2Proof.Machine
end

section
/-!
PROOF. The band monitors (R39, R40): what the crossing of one reports and sounds, and that the rest of the period update keeps it.
-/

namespace Sys2Proof.Machine

/-! ### A channel that only the bands use -/

/-- The channel plays an entry of the source and nothing waits. -/
def SoundChannel.Alone (src : SoundSource) (ch : SoundChannel) : Prop :=
  ch.waiting = [] ∧ ∃ x, ch.playing = some x ∧ x.source = src

/-- The channel has no entry, or plays one of the source and nothing waits. -/
def SoundChannel.FreeFor (src : SoundSource) (ch : SoundChannel) : Prop :=
  (ch.waiting = [] ∧ ch.playing = none) ∨ ch.Alone src

theorem SoundChannel.FreeFor.place {src : SoundSource} {ch : SoundChannel} (h : ch.FreeFor src)
    (patterns : Vector Pattern 16) (pattern : Fin 16) (held : Bool) (age : Nat) :
    (ch.place patterns src pattern held age).Alone src := by
  rcases h with ⟨waiting, silent⟩ | ⟨waiting, x, playing, source⟩
  · exact ⟨by simp [SoundChannel.place, SoundChannel.play, silent, waiting],
      by simp [SoundChannel.place, SoundChannel.play, silent]⟩
  · exact ⟨by simp [SoundChannel.place, SoundChannel.play, playing, source, waiting],
      by simp [SoundChannel.place, SoundChannel.play, SoundEntry.restart, playing, source]⟩

theorem SoundChannel.Alone.carries {src : SoundSource} {ch : SoundChannel} (h : ch.Alone src) : ch.Carries src 1 := by
  obtain ⟨waiting, x, playing, source⟩ := h
  exact ⟨⟨x, by simp [SoundChannel.entries, playing], source⟩, by simp [SoundChannel.entries, playing, waiting]⟩

/-! ### What a monitor's evaluation leaves -/

/-- The state of an end's buzzer. -/
def State.buzzer (s : State) (e : End) : SoundChannel := s.sound.channels.get (endBuzzer e)

/-- Reports join, and a buzzer that only the bands use stays one, with its entry. -/
structure Monitored (s t : State) : Prop extends Reports s t where
  free : ∀ e, (s.buzzer e).FreeFor .speedBand → (t.buzzer e).FreeFor .speedBand
  alone : ∀ e, (s.buzzer e).Alone .speedBand → (t.buzzer e).Alone .speedBand

theorem Monitored.refl (s : State) : Monitored s s := ⟨.of_same rfl rfl, fun _ h => h, fun _ h => h⟩

theorem Monitored.trans {s t u : State} (h : Monitored s t) (k : Monitored t u) : Monitored s u :=
  ⟨h.toReports.trans k.toReports, fun e f => k.free e (h.free e f), fun e a => k.alone e (h.alone e a)⟩

theorem Adds.monitored {s t : State} (h : Adds s t) : Monitored s t :=
  ⟨h.toReports, fun e => by simp only [State.buzzer, h.buzzers e, imp_self],
    fun e => by simp only [State.buzzer, h.buzzers e, imp_self]⟩

theorem requestSound_buzzer_other {e f : End} (other : e ≠ f) (src : SoundSource) (p : Fin 16) (held : Bool) (s : State) :
    (requestSound (endBuzzer f) src p held s).buzzer e = s.buzzer e := by
  have : endBuzzer e ≠ endBuzzer f := by revert other; cases e <;> cases f <;> decide
  unfold requestSound State.buzzer
  split
  · rfl
  · exact PerSpeaker.get_set_other _ _ _ _ this

/-- A band's request leaves the buzzer as it was, or playing the band's entry (R171, R181). -/
theorem requestSound_buzzer {e : End} {s : State} (free : (s.buzzer e).FreeFor .speedBand) (p : Fin 16) (held : Bool) :
    (requestSound (endBuzzer e) .speedBand p held s).buzzer e = s.buzzer e ∨
      ((requestSound (endBuzzer e) .speedBand p held s).buzzer e).Alone .speedBand := by
  unfold requestSound
  split
  · exact .inl rfl
  · right
    simpa [State.buzzer] using free.place _ _ _ _

theorem requestBand_monitored (m : Monitor) (s : State) : Monitored s (requestBand m s) := by
  have reports : Reports s (requestBand m s) := (requestBand_changes m s).reports (by decide) (by decide)
  unfold requestBand at reports ⊢
  split at reports
  next p f _ _ =>
    refine ⟨reports, fun e free => ?_, fun e alone => ?_⟩ <;> by_cases same : e = f
    · subst same
      rcases requestSound_buzzer free p false with h | h
      · rwa [h]
      · exact .inr h
    · rwa [requestSound_buzzer_other same]
    · subst same
      rcases requestSound_buzzer (.inr alone) p false with h | h
      · rwa [h]
      · exact h
    · rwa [requestSound_buzzer_other same]
  next => exact .refl s

/-- In the end that is ACTIVE the linked pattern sounds (R40). -/
theorem requestBand_alone {m : Monitor} {s : State} {e : End} {p : Fin 16} (active : s.auth.record = .active e)
    (pattern : m.pattern = some p) (free : (s.buzzer e).FreeFor .speedBand) :
    ((requestBand m s).buzzer e).Alone .speedBand := by
  have awake : s.isStabled = false := by simp [isStabled_false_iff, active]
  have loud : quietDrops (endBuzzer e) p s = false := by simp [quietDrops, endBuzzer_ne_chime e]
  simpa [requestBand, State.activeEnd, active, pattern, requestSound, awake, loud, State.buzzer] using
    free.place s.sound.patterns p false s.sound.joins

/-- The crossing of a monitor that its edge selects (R40). -/
def Monitor.crosses (m : Monitor) (vRef : Nat) : Prop := m.after vRef ≠ m.above ∧ m.edge.selects (m.after vRef) = true

/-- Monitor `i` takes its new state (R39). -/
def writeMonitor (i : Fin 4) (s : State) : State :=
  let m := s.speed.monitors[i]
  s.withSpeed { s.speed with monitors := s.speed.monitors.set i { m with above := m.after s.speed.vRef } }

/-- A crossing is reported: its flag and its event (R40). -/
def reportBand (i : Fin 4) (s : State) : State :=
  appendEvent (.speedBand i (s.speed.monitors[i].after s.speed.vRef) s.speed.vRef) (raiseFlag (.band i) (writeMonitor i s))

theorem evaluateMonitor_of_crosses {i : Fin 4} {s : State} (h : s.speed.monitors[i].crosses s.speed.vRef) :
    evaluateMonitor i s = requestBand s.speed.monitors[i] (reportBand i s) := if_pos h

theorem evaluateMonitor_of_stays {i : Fin 4} {s : State} (h : ¬ s.speed.monitors[i].crosses s.speed.vRef) :
    evaluateMonitor i s = writeMonitor i s := if_neg h

theorem writeMonitor_monitored (i : Fin 4) (s : State) : Monitored s (writeMonitor i s) :=
  ((withSpeed_changes _ s).adds (by decide)).monitored

theorem reportBand_monitored (i : Fin 4) (s : State) : Monitored s (reportBand i s) :=
  (writeMonitor_monitored i s).trans ((raiseFlag_adds _ _).trans (appendEvent_adds _ _)).monitored

theorem reportBand_record (i : Fin 4) (s : State) : (reportBand i s).auth.record = s.auth.record :=
  (((withSpeed_changes _ s).trans (raiseFlag_changes (.band i) _)).trans (appendEvent_changes _ _)) .record (by decide)

theorem evaluateMonitor_monitored (i : Fin 4) (s : State) : Monitored s (evaluateMonitor i s) := by
  by_cases h : s.speed.monitors[i].crosses s.speed.vRef
  · rw [evaluateMonitor_of_crosses h]
    exact (reportBand_monitored i s).trans (requestBand_monitored _ _)
  · rw [evaluateMonitor_of_stays h]
    exact writeMonitor_monitored i s

/-- What the crossing of monitor `i` in `s` leaves (R40): its flag, its event, and its pattern at the active end. -/
structure BandActs (i : Fin 4) (s t : State) : Prop where
  flag : t.vl.flags.getLsbD (11 + i.val) = true
  event : t.vl.events.length < 32 →
    Reported (.speedBand i (s.speed.monitors[i].after s.speed.vRef) s.speed.vRef) t
  sound : ∀ e p, s.auth.record = .active e → s.speed.monitors[i].pattern = some p →
    (s.buzzer e).FreeFor .speedBand → (t.buzzer e).Alone .speedBand

theorem BandActs.followed {i : Fin 4} {s t u : State} (h : BandActs i s t) (k : Monitored t u) : BandActs i s u where
  flag := k.flags _ h.flag
  event := k.toReports.reported h.event
  sound e p active pattern free := k.alone e (h.sound e p active pattern free)

theorem BandActs.preceded {i : Fin 4} {r s t : State} (h : BandActs i s t) (k : Monitored r s)
    (record : s.auth.record = r.auth.record) (monitor : s.speed.monitors[i] = r.speed.monitors[i])
    (vRef : s.speed.vRef = r.speed.vRef) : BandActs i r t where
  flag := h.flag
  event := by rw [← monitor, ← vRef]; exact h.event
  sound e p active pattern free :=
    h.sound e p (record.trans active) (by rw [monitor]; exact pattern) (k.free e free)

theorem appendEvent_reported (e : TripEvent) (s : State) : Reported e (appendEvent e s) := by
  unfold Reported
  rw [appendEvent_events]
  unfold logEntry
  split <;> simp

theorem evaluateMonitor_acts {i : Fin 4} {s : State} (h : s.speed.monitors[i].crosses s.speed.vRef) :
    BandActs i s (evaluateMonitor i s) := by
  rw [evaluateMonitor_of_crosses h]
  have sounds := requestBand_monitored s.speed.monitors[i] (reportBand i s)
  refine ⟨sounds.flags _ ((appendEvent_reports _ _).flags _ ?_), ?_, fun e p active pattern free => ?_⟩
  · simp [raiseFlag_flags, getLsbD_bitMask _ (show 11 + i.val < 16 by omega), NoticeFlag.bit]
  · exact sounds.toReports.reported fun _ => appendEvent_reported _ _
  · exact requestBand_alone ((reportBand_record i s).trans active) pattern ((reportBand_monitored i s).free e free)

/-! ### The four monitors -/

/-- The evaluation of a monitor leaves v_ref and the other monitors (R39). -/
theorem evaluateMonitor_others {i j : Fin 4} (other : i ≠ j) (s : State) :
    (evaluateMonitor j s).speed.monitors[i] = s.speed.monitors[i] ∧
      (evaluateMonitor j s).speed.vRef = s.speed.vRef := by
  rw [evaluateMonitor_speed]
  exact ⟨Vector.getElem_set_ne j.isLt i.isLt fun h => other (Fin.ext h.symm), rfl⟩

/-- The evaluation of a list of monitors, in order. -/
def evaluateMonitors (l : List (Fin 4)) (s : State) : State := l.foldl (fun acc i => evaluateMonitor i acc) s

theorem monitorStage_eq (s : State) : monitorStage s = evaluateMonitors [0, 1, 2, 3] s := by
  simp only [monitorStage, evaluateMonitors, List.foldl]

theorem evaluateMonitors_monitored (l : List (Fin 4)) (s : State) : Monitored s (evaluateMonitors l s) := by
  induction l generalizing s with
  | nil => exact .refl s
  | cons j js ih => exact (evaluateMonitor_monitored j s).trans (ih _)

theorem evaluateMonitors_acts {i : Fin 4} {l : List (Fin 4)} (member : i ∈ l) {s : State}
    (h : s.speed.monitors[i].crosses s.speed.vRef) : BandActs i s (evaluateMonitors l s) := by
  induction l generalizing s with
  | nil => cases member
  | cons j js ih =>
    by_cases same : i = j
    · subst same
      exact (evaluateMonitor_acts h).followed (evaluateMonitors_monitored js _)
    · obtain ⟨monitor, vRef⟩ := evaluateMonitor_others same s
      have later : i ∈ js := (List.mem_cons.mp member).resolve_left same
      exact (ih later (by rw [monitor, vRef]; exact h)).preceded (evaluateMonitor_monitored j s)
        (evaluateMonitor_changes j s .record (by decide)) monitor vRef

theorem monitorStage_acts {i : Fin 4} {s : State} (h : s.speed.monitors[i].crosses s.speed.vRef) :
    BandActs i s (monitorStage s) := by
  have all : ∀ j : Fin 4, j ∈ [0, 1, 2, 3] := by decide
  rw [monitorStage_eq]
  exact evaluateMonitors_acts (all i) h

/-! ### The rest of the period update -/

/-- Stage 3 reports, and leaves the buzzers and the door pulses (R32, R33). -/
theorem healthStage_adds (s : State) : Adds s (healthStage s) := by
  have reported (old : PerAxle Health) (u : State) : Adds u (reportHealth old u) := by
    have fault (b : Health) (c : Axle) (v : State) : Adds v (reportFault b c v) := by
      unfold reportFault
      split
      · exact appendEvent_adds _ v
      · exact .refl v
    have healthy (b : Health) (c : Axle) (v : State) : Adds v (reportHealthy b c v) := by
      unfold reportHealthy
      split
      · exact appendEvent_adds _ v
      · exact .refl v
    exact ((((fault _ _ _).trans (fault _ _ _)).trans (fault _ _ _)).trans (fault _ _ _)).trans
      ((((healthy _ _ _).trans (healthy _ _ _)).trans (healthy _ _ _)).trans (healthy _ _ _))
  have written (h : PerAxle Health) : Adds s (writeHealth h s) := (withSpeed_changes _ s).adds (by decide)
  unfold healthStage applyHealth
  have handed (h : PerAxle Health) : Adds s (handHealth (reportHealth (healthOf s.speed.axles) (writeHealth h s))) :=
    ((written h).trans (reported _ _)).trans (handIfChanged_adds _ _)
  exact .ite ((handed _).trans (setSource_adds _ _)) (handed _)

/-- The speed unit before its monitors are evaluated (stages 1 to 6). -/
def beforeMonitors (closed : PerAxle Bool) (s : State) : State :=
  odometerStage (standstillStage (referenceStage (healthStage (readAxles closed s))))

theorem speedUpdate_eq (closed : PerAxle Bool) (s : State) :
    speedUpdate closed s = monitorStage (beforeMonitors closed s) := rfl

theorem beforeMonitors_adds (closed : PerAxle Bool) (s : State) : Adds s (beforeMonitors closed s) :=
  ((((((withSpeed_changes _ s).adds (by decide)).trans (healthStage_adds (readAxles closed s))).trans
    ((referenceStage_changes _).adds (by decide))).trans ((standstillStage_changes _).adds (by decide))).trans
    ((odometerStage_changes _).adds (by decide)))

theorem beforeMonitors_changes (closed : PerAxle Bool) (s : State) : Changes healed s (beforeMonitors closed s) :=
  (((((withSpeed_changes _ s).trans (applyHealth_changes _ (readAxles closed s))).trans (referenceStage_changes _)).trans
    (standstillStage_changes _)).trans (odometerStage_changes _)).mono (by decide)

/-- What follows the speed unit in a period update, with the end of the event. -/
def finishPeriod (s : State) : State := settle (shaperPeriod (afterUpdate s))

theorem finishPeriod_reports (s : State) : Reports s (finishPeriod s) :=
  ((((((armLine_adds s).toReports.trans ((testVigilance_changes _).reports (by decide) (by decide))).trans
    (junctionPeriod_adds _).toReports).trans (testDeparture_adds _).toReports).trans (severedPeriod_adds _).toReports).trans
    (shaperPeriod_adds _).toReports).trans ((settle_changes _).reports (by decide) (by decide))

theorem finishPeriod_pulses (s : State) : (finishPeriod s).stop.pulses = s.stop.pulses := by
  have ended : (finishPeriod s).stop.pulses = (shaperPeriod (afterUpdate s)).stop.pulses :=
    settle_changes _ .pulses (by decide)
  have vigilance : (testVigilance (armLine s)).stop.pulses = (armLine s).stop.pulses :=
    testVigilance_changes _ .pulses (by decide)
  rw [ended, (shaperPeriod_adds _).pulses]
  unfold afterUpdate
  rw [(severedPeriod_adds _).pulses, (testDeparture_adds _).pulses, (junctionPeriod_adds _).pulses, vigilance,
    (armLine_adds s).pulses]

/-- A buzzer that plays a band alone still holds it at the end of the event: only the vigilance monitor and the junction unit
ask for it, and a channel keeps four entries (R172). -/
theorem finishPeriod_holds {s : State} {e : End} (alone : (s.buzzer e).Alone .speedBand) :
    ((finishPeriod s).buzzer e).holds .speedBand = true := by
  unfold State.buzzer at alone ⊢
  have tested : ((testVigilance (armLine s)).sound.channels.get (endBuzzer e)).Carries .speedBand 2 := by
    refine testVigilance_carries ?_ (by decide) (by decide)
    rw [(armLine_adds s).buzzers]
    exact alone.carries
  have rest : Adds (testVigilance (armLine s)) (shaperPeriod (afterUpdate s)) :=
    ((junctionPeriod_adds _).trans (testDeparture_adds _)).trans ((severedPeriod_adds _).trans (shaperPeriod_adds _))
  rw [← rest.buzzers e] at tested
  exact SoundChannel.holds_iff.mpr (settle_carries tested (by decide) (by decide)).present

end Sys2Proof.Machine
end

section
/-!
PROOF. PERIOD_UPDATE (O48): what the stages leave together, which channel becomes the reference, and the rest of the row.
-/

namespace Sys2Proof.Machine

/-! ### The reference channel (R34, R35) -/

/-- The healthy channels of the centre bogie. -/
def healthyT (axles : PerAxle AxleChannel) : List Axle := (healthyAxles axles).filter isT

theorem mem_healthyT {axles : PerAxle AxleChannel} {c : Axle} :
    c ∈ healthyT axles ↔ (c = .t1 ∨ c = .t2) ∧ c ∈ healthyAxles axles := by
  cases c <;> simp [healthyT, isT]

theorem healthyT_ordered (axles : PerAxle AxleChannel) : (healthyT axles).Pairwise standsBefore :=
  (healthyAxles_ordered axles).filter _

/-- Of the channels in `l`, `c` is the fastest, the first of equals. -/
def FastestOf (axles : PerAxle AxleChannel) (l : List Axle) (c : Axle) : Prop :=
  c ∈ l ∧ ∀ o ∈ l, (axleGet axles o).speed < (axleGet axles c).speed ∨
    ((axleGet axles o).speed = (axleGet axles c).speed ∧ standsBefore c o)

/-- Of the channels in `l`, `c` is the slowest, the first of equals. -/
def SlowestOf (axles : PerAxle AxleChannel) (l : List Axle) (c : Axle) : Prop :=
  c ∈ l ∧ ∀ o ∈ l, (axleGet axles c).speed < (axleGet axles o).speed ∨
    ((axleGet axles o).speed = (axleGet axles c).speed ∧ standsBefore c o)

theorem fastest_some {axles : PerAxle AxleChannel} {l : List Axle} {c : Axle} (order : l.Pairwise standsBefore)
    (h : fastest axles l = some c) : FastestOf axles l c := by
  rcases fastest_cases axles l order with ⟨-, k⟩ | ⟨d, member, k, best⟩ <;> rw [h] at k <;> cases k
  exact ⟨member, best⟩

theorem slowest_some {axles : PerAxle AxleChannel} {l : List Axle} {c : Axle} (order : l.Pairwise standsBefore)
    (h : slowest axles l = some c) : SlowestOf axles l c := by
  rcases slowest_cases axles l order with ⟨-, k⟩ | ⟨d, member, k, best⟩ <;> rw [h] at k <;> cases k
  exact ⟨member, best⟩

theorem fastest_eq_none {axles : PerAxle AxleChannel} {l : List Axle} : fastest axles l = none ↔ l = [] := by
  rw [fastest_eq]
  cases l <;> simp [pickLargest]

theorem slowest_eq_none {axles : PerAxle AxleChannel} {l : List Axle} : slowest axles l = none ↔ l = [] := by
  rw [slowest_eq]
  cases l <;> simp [pickLargest]

/-- All that the choice of the reference can be: in braking the fastest healthy channel, else the fastest of the centre bogie,
else the slowest. -/
theorem chooseReference_eq (axles : PerAxle AxleChannel) (prev : Int) :
    chooseReference axles prev =
      if prev < 0 then fastest axles (healthyAxles axles)
      else if healthyT axles = [] then slowest axles (healthyAxles axles)
      else fastest axles (healthyT axles) := by
  have sign : 0 ≤ prev ↔ ¬ prev < 0 := by omega
  unfold chooseReference
  by_cases braking : prev < 0 <;> by_cases centre : (healthyAxles axles).filter isT = [] <;>
    simp [healthyT, sign, braking, centre]

theorem chooseReference_eq_none {axles : PerAxle AxleChannel} {prev : Int} :
    chooseReference axles prev = none ↔ healthyAxles axles = [] := by
  rw [chooseReference_eq]
  split
  · exact fastest_eq_none
  · split
    · exact slowest_eq_none
    next some =>
      refine iff_of_false (fun h => some (fastest_eq_none.mp h)) fun h => some ?_
      simp [healthyT, h]

/-- Which channel a reference is (R34, R35). -/
structure ReferenceOf (axles : PerAxle AxleChannel) (prev : Int) (c : Axle) : Prop where
  braking : prev < 0 → FastestOf axles (healthyAxles axles) c
  centre : 0 ≤ prev → healthyT axles ≠ [] → FastestOf axles (healthyT axles) c
  motored : 0 ≤ prev → healthyT axles = [] → SlowestOf axles (healthyAxles axles) c

theorem chooseReference_some {axles : PerAxle AxleChannel} {prev : Int} {c : Axle}
    (h : chooseReference axles prev = some c) : ReferenceOf axles prev c := by
  rw [chooseReference_eq] at h
  split at h
  next braking =>
    exact ⟨fun _ => fastest_some (healthyAxles_ordered _) h, fun k => absurd k (by omega), fun k => absurd k (by omega)⟩
  next forward =>
    split at h
    next none =>
      exact ⟨fun k => absurd k forward, fun _ some => absurd none some,
        fun _ _ => slowest_some (healthyAxles_ordered _) h⟩
    next some =>
      exact ⟨fun k => absurd k forward, fun _ _ => fastest_some (healthyT_ordered _) h, fun _ none => absurd none some⟩

theorem ReferenceOf.healthy {axles : PerAxle AxleChannel} {prev : Int} {c : Axle} (h : ReferenceOf axles prev c) :
    c ∈ healthyAxles axles := by
  by_cases braking : prev < 0
  · exact (h.braking braking).1
  · by_cases none : healthyT axles = []
    · exact (h.motored (by omega) none).1
    · exact (mem_healthyT.mp (h.centre (by omega) none).1).2

/-- With both channels of the centre bogie healthy, traction reads the faster of them, T1 of equals (R34). -/
theorem chooseReference_centre {axles : PerAxle AxleChannel} {prev : Int} (t1 : Axle.t1 ∈ healthyAxles axles)
    (t2 : Axle.t2 ∈ healthyAxles axles) (sign : 0 ≤ prev) :
    chooseReference axles prev = if axles.t2.speed ≤ axles.t1.speed then some .t1 else some .t2 := by
  have in1 : Axle.t1 ∈ healthyT axles := mem_healthyT.mpr ⟨.inl rfl, t1⟩
  have in2 : Axle.t2 ∈ healthyT axles := mem_healthyT.mpr ⟨.inr rfl, t2⟩
  cases h : chooseReference axles prev with
  | none => simp [chooseReference_eq_none.mp h] at t1
  | some c =>
    obtain ⟨member, best⟩ := (chooseReference_some h).centre sign (List.ne_nil_of_mem in1)
    rcases (mem_healthyT.mp member).1 with rfl | rfl
    · have : axles.t2.speed ≤ axles.t1.speed := by
        have : axles.t2.speed < axles.t1.speed ∨ axles.t2.speed = axles.t1.speed ∧ _ := best .t2 in2
        omega
      rw [if_pos this]
    · have : ¬ axles.t2.speed ≤ axles.t1.speed := by
        have : axles.t1.speed < axles.t2.speed ∨ axles.t1.speed = axles.t2.speed ∧ 1 ≤ 0 := best .t1 in1
        omega
      rw [if_neg this]

/-! ### The stages together (R25 to R39) -/

/-- The count a channel has read is the newest of its window (R25, R37). -/
theorem read_lastCount (x : AxleChannel) (pulse : Nat) (closed : Bool) : (x.read pulse closed).lastCount = x.count := by
  unfold AxleChannel.lastCount AxleChannel.read AxleChannel.close
  dsimp only
  split <;> simp

/-- What stage 3 leaves of the speed unit. -/
theorem healthStage_kept (s : State) :
    (healthStage s).speed.pulseLength = s.speed.pulseLength ∧ (healthStage s).speed.monitors = s.speed.monitors ∧
      (healthStage s).speed.vRef = s.speed.vRef ∧ (healthStage s).speed.lowRun = s.speed.lowRun ∧
      (healthStage s).speed.odometer = s.speed.odometer ∧ (healthStage s).speed.remainder = s.speed.remainder ∧
      (healthStage s).shaper = s.shaper := by
  have shaper : (healthStage s).shaper = s.shaper := applyHealth_changes _ s .shaper (by decide)
  rw [healthStage_speed, shaper]
  exact ⟨rfl, rfl, rfl, rfl, rfl, rfl, rfl⟩

/-- What stage 4 leaves of the speed unit. -/
theorem referenceStage_kept (s : State) :
    (referenceStage s).speed.axles = s.speed.axles ∧ (referenceStage s).speed.pulseLength = s.speed.pulseLength ∧
      (referenceStage s).speed.monitors = s.speed.monitors ∧ (referenceStage s).speed.lowRun = s.speed.lowRun ∧
      (referenceStage s).speed.odometer = s.speed.odometer ∧ (referenceStage s).speed.remainder = s.speed.remainder ∧
      (referenceStage s).speed.reference = chooseReference s.speed.axles s.shaper.prev := by
  cases h : chooseReference s.speed.axles s.shaper.prev with
  | none => simp [referenceStage_none h]
  | some c => simp [referenceStage_some h]

/-- What stage 5 leaves of the speed unit. -/
theorem standstillStage_kept (s : State) :
    (standstillStage s).speed.axles = s.speed.axles ∧ (standstillStage s).speed.pulseLength = s.speed.pulseLength ∧
      (standstillStage s).speed.monitors = s.speed.monitors ∧ (standstillStage s).speed.vRef = s.speed.vRef ∧
      (standstillStage s).speed.odometer = s.speed.odometer ∧ (standstillStage s).speed.remainder = s.speed.remainder ∧
      (standstillStage s).speed.reference = s.speed.reference := by
  rw [standstillStage_speed]
  exact ⟨rfl, rfl, rfl, rfl, rfl, rfl, rfl⟩

/-- What stage 6 leaves of the speed unit. -/
theorem odometerStage_kept (s : State) :
    (odometerStage s).speed.axles = s.speed.axles ∧ (odometerStage s).speed.monitors = s.speed.monitors ∧
      (odometerStage s).speed.vRef = s.speed.vRef ∧ (odometerStage s).speed.lowRun = s.speed.lowRun ∧
      (odometerStage s).speed.standstill = s.speed.standstill ∧
      (odometerStage s).speed.reference = s.speed.reference := by
  rw [odometerStage_speed]
  exact ⟨rfl, rfl, rfl, rfl, rfl, rfl⟩

theorem odometerStage_some {s : State} {c : Axle} (h : s.speed.reference = some c) :
    let travel := s.speed.remainder + (axleGet s.speed.axles c).lastCount * s.speed.pulseLength
    (odometerStage s).speed.odometer = s.speed.odometer + BitVec.ofNat 24 (travel / 10000) ∧
      (odometerStage s).speed.remainder = travel % 10000 := by
  simp [odometerStage, h, decimetre]

theorem odometerStage_none {s : State} (h : s.speed.reference = none) : odometerStage s = s := by
  simp [odometerStage, h]

/-- What the speed unit's update leaves, on the speed units before and after and O_prev (R25 to R39). -/
structure SpeedUpdated (closed : PerAxle Bool) (prev : Int) (x y : SpeedUnit) : Prop where
  axle : ∀ c, axleGet y.axles c =
    { (axleGet x.axles c).read x.pulseLength (axleGet closed c) with health := (axleGet y.axles c).health }
  reference : y.reference = chooseReference y.axles prev
  vRef : ∀ c, y.reference = some c → y.vRef = (axleGet y.axles c).speed
  travel : ∀ c, y.reference = some c → let travel := x.remainder + (axleGet x.axles c).count * x.pulseLength
    y.odometer = x.odometer + BitVec.ofNat 24 (travel / 10000) ∧ y.remainder = travel % 10000
  low : ∀ c, y.reference = some c → y.vRef < 5 →
    y.lowRun = min 25 (x.lowRun + 1) ∧ (y.standstill = true ↔ 25 ≤ x.lowRun + 1)
  moving : y.reference = none ∨ 5 ≤ y.vRef → y.lowRun = 0 ∧ y.standstill = false
  unread : y.reference = none → y.vRef = x.vRef ∧ y.odometer = x.odometer ∧ y.remainder = x.remainder

/-- The state that stages 4 to 6 read. -/
def judged (closed : PerAxle Bool) (s : State) : State := healthStage (readAxles closed s)

theorem judged_kept (closed : PerAxle Bool) (s : State) :
    (judged closed s).speed.pulseLength = s.speed.pulseLength ∧ (judged closed s).speed.vRef = s.speed.vRef ∧
      (judged closed s).speed.lowRun = s.speed.lowRun ∧ (judged closed s).speed.odometer = s.speed.odometer ∧
      (judged closed s).speed.remainder = s.speed.remainder ∧ (judged closed s).speed.monitors = s.speed.monitors ∧
      (judged closed s).shaper = s.shaper := by
  simp only [judged, healthStage_kept]
  exact ⟨rfl, rfl, rfl, rfl, rfl, rfl, rfl⟩

theorem axleGet_judged (closed : PerAxle Bool) (s : State) (c : Axle) :
    axleGet (judged closed s).speed.axles c =
      { (axleGet s.speed.axles c).read s.speed.pulseLength (axleGet closed c) with
        health := (axleGet (judged closed s).speed.axles c).health } := by
  rw [judged, axleGet_healthStage, axleGet_readAxles]

theorem judged_lastCount (closed : PerAxle Bool) (s : State) (c : Axle) :
    (axleGet (judged closed s).speed.axles c).lastCount = (axleGet s.speed.axles c).count := by
  rw [axleGet_judged]
  exact read_lastCount _ s.speed.pulseLength (axleGet closed c)

theorem beforeMonitors_eq (closed : PerAxle Bool) (s : State) :
    beforeMonitors closed s = odometerStage (standstillStage (referenceStage (judged closed s))) := rfl

/-- Stages 1 to 6 together. -/
theorem beforeMonitors_updated (closed : PerAxle Bool) (s : State) :
    SpeedUpdated closed s.shaper.prev s.speed (beforeMonitors closed s).speed := by
  have prev : (judged closed s).shaper = s.shaper := by simp only [judged_kept]
  have axles : (beforeMonitors closed s).speed.axles = (judged closed s).speed.axles := by
    simp only [beforeMonitors_eq, odometerStage_kept, standstillStage_kept, referenceStage_kept]
  have vRef : (beforeMonitors closed s).speed.vRef = (referenceStage (judged closed s)).speed.vRef := by
    simp only [beforeMonitors_eq, odometerStage_kept, standstillStage_kept]
  have lowRun : (beforeMonitors closed s).speed.lowRun =
      (standstillStage (referenceStage (judged closed s))).speed.lowRun := by
    simp only [beforeMonitors_eq, odometerStage_kept]
  have standstill : (beforeMonitors closed s).speed.standstill =
      (standstillStage (referenceStage (judged closed s))).speed.standstill := by
    simp only [beforeMonitors_eq, odometerStage_kept]
  have referred : (beforeMonitors closed s).speed.reference = (referenceStage (judged closed s)).speed.reference := by
    simp only [beforeMonitors_eq, odometerStage_kept, standstillStage_kept]
  have stood : (standstillStage (referenceStage (judged closed s))).speed.reference =
      (beforeMonitors closed s).speed.reference := by
    simp only [referred, standstillStage_kept]
  have chosen : (beforeMonitors closed s).speed.reference =
      chooseReference (judged closed s).speed.axles (judged closed s).shaper.prev := by
    simp only [referred, referenceStage_kept]
  refine ⟨fun c => ?_, ?_, fun c h => ?_, fun c h => ?_, fun c h low => ?_, fun h => ?_, fun h => ?_⟩
  · rw [axles, axleGet_judged]
  · rw [axles, chosen, prev]
  · rw [vRef, referenceStage_some (chosen ▸ h), axles]
  · have travelled := odometerStage_some (stood.trans h)
    simpa only [beforeMonitors_eq, standstillStage_kept, referenceStage_kept, judged_kept, judged_lastCount]
      using travelled
  · rw [lowRun, standstill]
    have := standstillStage_low (referred ▸ h) (vRef ▸ low)
    simpa only [referenceStage_kept, judged_kept] using this
  · rw [lowRun, standstill]
    exact standstillStage_moving (by rwa [← referred, ← vRef])
  · have still := odometerStage_none (stood.trans h)
    rw [vRef, referenceStage_none (chosen ▸ h)]
    simp only [beforeMonitors_eq, still, standstillStage_kept, referenceStage_kept, judged_kept, and_self]

theorem beforeMonitors_monitors (closed : PerAxle Bool) (s : State) :
    (beforeMonitors closed s).speed.monitors = s.speed.monitors := by
  simp only [beforeMonitors_eq, odometerStage_kept, standstillStage_kept, referenceStage_kept, judged_kept]

theorem speedUpdate_updated (closed : PerAxle Bool) (s : State) :
    SpeedUpdated closed s.shaper.prev s.speed (speedUpdate closed s).speed := by
  obtain ⟨axle, reference, vRef, travel, low, moving, unread⟩ := beforeMonitors_updated closed s
  rw [speedUpdate_eq, monitorStage_speed]
  exact ⟨axle, reference, vRef, travel, low, moving, unread⟩

theorem speedUpdate_monitors (closed : PerAxle Bool) (s : State) (i : Fin 4) :
    (speedUpdate closed s).speed.monitors[i] =
      { s.speed.monitors[i] with above := s.speed.monitors[i].after (speedUpdate closed s).speed.vRef } := by
  simp only [speedUpdate_eq, monitorStage_speed, beforeMonitors_monitors]
  simp

/-! ### The rest of the row -/

theorem finishPeriod_changes (s : State) :
    Changes (followed ++ computed ++ .owed :: .port .vl :: closing) s (finishPeriod s) :=
  (((afterUpdate_changes s).trans (shaperPeriod_changes _)).trans (settle_changes _))

theorem finishPeriod_speed (s : State) : (finishPeriod s).speed = s.speed :=
  finishPeriod_changes s .speed (by decide)

/-- After a period update the brake line is armed (R90). -/
theorem finishPeriod_armed (s : State) : (finishPeriod s).emerg.armed = true := by
  have armed : (armLine s).emerg.armed = true := by
    unfold armLine
    split
    next h => exact h
    next => rfl
  have rest := (((((testVigilance_changes (armLine s)).trans (junctionPeriod_changes _)).trans
    (testDeparture_changes _)).trans (severedPeriod_changes _)).trans (shaperPeriod_changes _)).trans (settle_changes _)
  have kept : (finishPeriod s).emerg.armed = (armLine s).emerg.armed := rest .armed (by decide)
  rw [kept, armed]

/-- The state PERIOD_UPDATE leaves. -/
def afterPeriod (closed : PerAxle Bool) (s : State) : State := finishPeriod (speedUpdate closed (beginPeriod closed s))

theorem exec_periodUpdate (closed : PerAxle Bool) (s : State) :
    exec (.periodUpdate closed) s = .next (afterPeriod closed s) := rfl

theorem afterPeriod_speed (closed : PerAxle Bool) (s : State) :
    (afterPeriod closed s).speed = (speedUpdate closed (beginPeriod closed s)).speed := finishPeriod_speed _

theorem afterPeriod_updated (closed : PerAxle Bool) (s : State) :
    SpeedUpdated closed s.shaper.prev s.speed (afterPeriod closed s).speed := by
  rw [afterPeriod_speed]
  exact speedUpdate_updated closed (beginPeriod closed s)

theorem afterPeriod_changes (closed : PerAxle Bool) (s : State) :
    Changes (healed ++ (followed ++ computed ++ .owed :: .port .vl :: closing)) (beginPeriod closed s)
      (afterPeriod closed s) :=
  (speedUpdate_changes closed _).trans (finishPeriod_changes _)

/-- The period timer restarts at 20 ms and nothing else of the clock moves, beside the choices taken (R26). -/
theorem afterPeriod_clock (closed : PerAxle Bool) (s : State) :
    (afterPeriod closed s).clock = { s.clock with period := 20, choices := (afterPeriod closed s).clock.choices } := by
  have kept := afterPeriod_changes closed s .clock (by decide)
  generalize (afterPeriod closed s) = t at kept ⊢
  obtain ⟨ms, phase, period, sampling⟩ := kept
  cases h : t.clock
  simp_all [beginPeriod, demandPeriod]

theorem afterPeriod_pulses (closed : PerAxle Bool) (s : State) : (afterPeriod closed s).stop.pulses = s.stop.pulses :=
  (finishPeriod_pulses _).trans (speedUpdate_changes closed (beginPeriod closed s) .pulses (by decide))

/-- The parts a period update leaves as they are: configuration, slots, plan and held values among them. -/
theorem afterPeriod_frame (closed : PerAxle Bool) (s : State) :
    ∀ p ∈ [Part.slots, .commandHold, .vigilanceSetting, .plan, .enquiry, .levels, .acked, .lines, .pulses, .patterns,
      .forcedOff, .assembly, .held, .identity, .mask, .pending], p.same s (afterPeriod closed s) := by
  intro p member
  by_cases pulses : p = .pulses
  · subst pulses
    exact afterPeriod_pulses closed s
  · have untouched : p ∉ healed ++ (followed ++ computed ++ .owed :: .port .vl :: closing) := by
      revert p
      decide
    have begun : p ∉ [Part.pins, .clock] := by
      revert p
      decide
    exact Part.same_trans (beginPeriod_changes closed s p begun) (afterPeriod_changes closed s p untouched)

theorem Edge.selects_iff {e : Edge} {rising : Bool} :
    e.selects rising = true ↔ e = .both ∨ (e = .rising ∧ rising = true) ∨ (e = .falling ∧ rising = false) := by
  cases e <;> cases rising <;> decide

theorem Monitor.after_eq (m : Monitor) (vRef : Nat) :
    m.after vRef = decide ((if m.above then m.threshold else m.threshold + 5) ≤ vRef) := by
  unfold Monitor.after Monitor.rises
  split <;> rfl

/-- A selected crossing in a period update, from the state before it (R40). -/
theorem afterPeriod_band {closed : PerAxle Bool} {s : State} {i : Fin 4}
    (h : s.speed.monitors[i].crosses (afterPeriod closed s).speed.vRef) :
    (afterPeriod closed s).vl.flags.getLsbD (11 + i.val) = true ∧
      ((afterPeriod closed s).vl.events.length < 32 →
        Reported (.speedBand i (s.speed.monitors[i].after (afterPeriod closed s).speed.vRef)
          (afterPeriod closed s).speed.vRef) (afterPeriod closed s)) ∧
      (∀ e p, s.auth.record = .active e → s.speed.monitors[i].pattern = some p → (s.buzzer e).FreeFor .speedBand →
        ((afterPeriod closed s).buzzer e).holds .speedBand = true) := by
  have monitors := beforeMonitors_monitors closed (beginPeriod closed s)
  have vRef : (afterPeriod closed s).speed.vRef = (beforeMonitors closed (beginPeriod closed s)).speed.vRef := by
    rw [afterPeriod_speed, speedUpdate_eq, monitorStage_speed]
  have before := beforeMonitors_adds closed (beginPeriod closed s)
  have record : (beforeMonitors closed (beginPeriod closed s)).auth.record = s.auth.record :=
    beforeMonitors_changes closed (beginPeriod closed s) .record (by decide)
  have finished := finishPeriod_reports (speedUpdate closed (beginPeriod closed s))
  have monitor : s.speed.monitors[i] = (beforeMonitors closed (beginPeriod closed s)).speed.monitors[i] := by
    simp only [monitors]
    rfl
  rw [vRef, monitor] at h ⊢
  have acts : BandActs i (beforeMonitors closed (beginPeriod closed s)) (speedUpdate closed (beginPeriod closed s)) := by
    rw [speedUpdate_eq]
    exact monitorStage_acts h
  unfold afterPeriod
  refine ⟨finished.flags _ acts.flag, fun room => finished.reported acts.event room, fun e p active pattern free => ?_⟩
  exact finishPeriod_holds (acts.sound e p (record.trans active) pattern (before.monitored.free e free))

/-- What a channel reads at the end of a period (R25, R27). -/
theorem SpeedUpdated.read {closed : PerAxle Bool} {prev : Int} {x y : SpeedUnit} (h : SpeedUpdated closed prev x y)
    (c : Axle) :
    (axleGet y.axles c).count = 0 ∧ (axleGet y.axles c).closed = axleGet closed c ∧
      (axleGet y.axles c).window = (if (axleGet x.axles c).window.length < 5 then (axleGet x.axles c).window
        else (axleGet x.axles c).window.drop 1) ++ [(axleGet x.axles c).count] ∧
      (axleGet y.axles c).speed = min 1000 (min 1023 (axleGet y.axles c).window.sum * x.pulseLength * 36 / 10000) := by
  rw [h.axle c]
  refine ⟨rfl, rfl, ?_, rfl⟩
  by_cases few : (axleGet x.axles c).window.length < 5 <;>
    simp [AxleChannel.read, AxleChannel.close, windowPlaces, few]

theorem SpeedUpdated.referenceOf {closed : PerAxle Bool} {prev : Int} {x y : SpeedUnit}
    (h : SpeedUpdated closed prev x y) {c : Axle} (ref : y.reference = some c) : ReferenceOf y.axles prev c :=
  chooseReference_some (h.reference ▸ ref)

theorem mem_healthyAxles_iff {axles : PerAxle AxleChannel} {c : Axle} :
    c ∈ healthyAxles axles ↔ ∃ z o, (axleGet axles c).health = .healthy z o := mem_healthyAxles.trans isHealthy_iff

theorem faulted_of_healthyAxles_nil {axles : PerAxle AxleChannel} (none : healthyAxles axles = []) (c : Axle) :
    ∃ cause r, (axleGet axles c).health = .faulted cause r := by
  cases h : (axleGet axles c).health with
  | healthy z o => simpa [none] using mem_healthyAxles_iff.mpr ⟨z, o, h⟩
  | faulted cause r => exact ⟨cause, r, rfl⟩

/-- Settles O48: the speed unit stage by stage (`SpeedUpdated`), the reference (`ReferenceOf`), the crossings (`BandActs`), and
what the other units leave. -/
theorem periodUpdateReadsTheAxles : Obligations.PeriodUpdateReadsTheAxles := by
  intro closed s
  refine ⟨afterPeriod closed s, exec_periodUpdate closed s, ?_⟩
  have updated := afterPeriod_updated closed s
  have pins : (afterPeriod closed s).pins = (beginPeriod closed s).pins :=
    afterPeriod_changes closed s .pins (by decide)
  have band (i : Fin 4) := afterPeriod_band (closed := closed) (s := s) (i := i)
  have monitors (i : Fin 4) : (afterPeriod closed s).speed.monitors[i] =
      { s.speed.monitors[i] with above := s.speed.monitors[i].after (afterPeriod closed s).speed.vRef } := by
    rw [afterPeriod_speed]
    exact speedUpdate_monitors closed (beginPeriod closed s) i
  refine ⟨afterPeriod_clock closed s, pins, finishPeriod_armed _, afterPeriod_frame closed s, updated.read,
    ?_, ?_, ?_, ?_, ?_⟩
  all_goals generalize afterPeriod closed s = t at *
  · intro c ref
    exact ⟨mem_healthyAxles_iff.mp (updated.referenceOf ref).healthy, updated.vRef c ref, updated.travel c ref,
      updated.low c ref, fun fast => updated.moving (.inr fast)⟩
  · intro ref
    obtain ⟨vRef, odometer, remainder⟩ := updated.unread ref
    obtain ⟨lowRun, standstill⟩ := updated.moving (.inl ref)
    exact ⟨faulted_of_healthyAxles_nil (chooseReference_eq_none.mp (updated.reference ▸ ref)), vRef, odometer, remainder,
      lowRun, standstill⟩
  · intro t1 t2 sign
    rw [updated.reference]
    exact chooseReference_centre (mem_healthyAxles_iff.mpr t1) (mem_healthyAxles_iff.mpr t2) sign
  · intro healthy v centre before c ref
    obtain ⟨braking, centred, motored⟩ := updated.referenceOf ref
    refine ⟨fun sign o ho => (braking sign).2 o (mem_healthyAxles_iff.mpr ho), fun sign ⟨x, hx, works⟩ => ?_,
      fun sign none o ho => ?_⟩
    · have best := centred sign (List.ne_nil_of_mem (mem_healthyT.mpr ⟨hx, mem_healthyAxles_iff.mpr works⟩))
      exact ⟨(mem_healthyT.mp best.1).1, fun o ho k => best.2 o (mem_healthyT.mpr ⟨ho, mem_healthyAxles_iff.mpr k⟩)⟩
    · refine (motored sign ?_).2 o (mem_healthyAxles_iff.mpr ho)
      refine List.eq_nil_iff_forall_not_mem.mpr fun x member => ?_
      obtain ⟨hx, works⟩ := mem_healthyT.mp member
      exact none x hx (mem_healthyAxles_iff.mp works)
  · intro i m above
    have state : above = m.after t.speed.vRef := (m.after_eq _).symm
    refine ⟨by rw [state]; exact monitors i, fun changed edge => ?_⟩
    rw [state] at changed edge ⊢
    obtain ⟨flag, event, sound⟩ := band i ⟨changed, Edge.selects_iff.mpr edge⟩
    exact ⟨flag, event, fun e p active pattern sounds silent =>
      sound e p active pattern (.inl ⟨(sounds _).silent silent, silent⟩)⟩

end Sys2Proof.Machine
end
